-- ==== Sys2Proof/Word.lean ====
section
/-! DEFINITION. The two widths of the block (R10): an 8-bit data bus and cell, a 16-bit address. -/

namespace Sys2Proof

/-- A byte: the width of the data bus, of every memory cell and of the eight 8-bit registers (R10, R30). -/
abbrev Byte := BitVec 8

/-- A 16-bit word: an address, SP, PC or a register pair (R10, R30, R31). Its arithmetic wraps modulo 2^16 (R11). -/
abbrev Word := BitVec 16

end Sys2Proof
end

