-- ==== Sys2Proof/Syntax.lean ====
section
/-! DEFINITION. The instructions (one constructor per row of spec/opcode_table.json), the decoded opcode tag and the
names of the operand codes R140 to R143. An operand of a constructor is the immediate of R145; a register operand is
part of the row. STOP's second byte is no operand: nothing reads it and its value is ignored (R145, R362). -/

namespace Sys2Proof

/-- The decoded opcode tag of R131: a plain byte, or the byte after the 0xCB marker. -/
inductive Opcode where
  | plain (b : Byte)
  | extended (b : Byte)
  deriving DecidableEq, Repr

/-- The seven 8-bit registers a 3-bit operand code selects (R140, codes 0 to 5 and 7). -/
inductive Reg8 where
  | b | c | d | e | h | l | a
  deriving DecidableEq, Repr

/-- The operand of a 3-bit code: a register, or the byte in memory at address HL (R140, code 6). -/
inductive Operand8 where
  | reg (r : Reg8)
  | indHl
  deriving DecidableEq, Repr

/-- The register pairs of code `p` (R141). -/
inductive Reg16 where
  | bc | de | hl | sp
  deriving DecidableEq, Repr

/-- The register pairs of code `q`, for PUSH and POP (R142). -/
inductive StackPair where
  | bc | de | hl | af
  deriving DecidableEq, Repr

/-- The conditions of code `c` (R143, R330). -/
inductive Cond where
  | nz | z | nc | c
  deriving DecidableEq, Repr

/-- The operations of the 8-bit ALU group, code `o` (R143). -/
inductive AluOp where
  | add | adc | sub | sbc | and | xor | or | cp
  deriving DecidableEq, Repr

/-- The source operand of the 8-bit ALU group (R250). -/
inductive AluSource where
  | reg (r : Reg8)
  | indHl
  | imm (n : Byte)
  deriving DecidableEq, Repr

/-- The shift and rotate operations of the extended space, code `o` (R143, R148). -/
inductive ShiftOp where
  | rlc | rrc | rl | rr | sla | sra | swap | srl
  deriving DecidableEq, Repr

/-- The bit index `b` of BIT, RES and SET (R143). -/
inductive BitIndex where
  | b0 | b1 | b2 | b3 | b4 | b5 | b6 | b7
  deriving DecidableEq, Repr

/-- The RST field `t`, named by its target `t * 8` (R143, R341). -/
inductive RstTarget where
  | t00 | t08 | t10 | t18 | t20 | t28 | t30 | t38
  deriving DecidableEq, Repr

/-- One constructor per row of spec/opcode_table.json (500 rows, R136). -/
inductive Instr where
  -- 41_load8.md: 8-bit loads and stores
  | ldIndBcA -- 0x02 LD (BC),A (R207)
  | ldBN8 (n : Byte) -- 0x06 LD B,n8 (R201)
  | ldAIndBc -- 0x0A LD A,(BC) (R205)
  | ldCN8 (n : Byte) -- 0x0E LD C,n8 (R201)
  | ldIndDeA -- 0x12 LD (DE),A (R208)
  | ldDN8 (n : Byte) -- 0x16 LD D,n8 (R201)
  | ldAIndDe -- 0x1A LD A,(DE) (R206)
  | ldEN8 (n : Byte) -- 0x1E LD E,n8 (R201)
  | ldIndHlIncA -- 0x22 LD (HL+),A (R215)
  | ldHN8 (n : Byte) -- 0x26 LD H,n8 (R201)
  | ldAIndHlInc -- 0x2A LD A,(HL+) (R216)
  | ldLN8 (n : Byte) -- 0x2E LD L,n8 (R201)
  | ldIndHlDecA -- 0x32 LD (HL-),A (R217)
  | ldIndHlN8 (n : Byte) -- 0x36 LD (HL),n8 (R204)
  | ldAIndHlDec -- 0x3A LD A,(HL-) (R218)
  | ldAN8 (n : Byte) -- 0x3E LD A,n8 (R201)
  | ldBB -- 0x40 LD B,B (R200)
  | ldBC -- 0x41 LD B,C (R200)
  | ldBD -- 0x42 LD B,D (R200)
  | ldBE -- 0x43 LD B,E (R200)
  | ldBH -- 0x44 LD B,H (R200)
  | ldBL -- 0x45 LD B,L (R200)
  | ldBIndHl -- 0x46 LD B,(HL) (R202)
  | ldBA -- 0x47 LD B,A (R200)
  | ldCB -- 0x48 LD C,B (R200)
  | ldCC -- 0x49 LD C,C (R200)
  | ldCD -- 0x4A LD C,D (R200)
  | ldCE -- 0x4B LD C,E (R200)
  | ldCH -- 0x4C LD C,H (R200)
  | ldCL -- 0x4D LD C,L (R200)
  | ldCIndHl -- 0x4E LD C,(HL) (R202)
  | ldCA -- 0x4F LD C,A (R200)
  | ldDB -- 0x50 LD D,B (R200)
  | ldDC -- 0x51 LD D,C (R200)
  | ldDD -- 0x52 LD D,D (R200)
  | ldDE -- 0x53 LD D,E (R200)
  | ldDH -- 0x54 LD D,H (R200)
  | ldDL -- 0x55 LD D,L (R200)
  | ldDIndHl -- 0x56 LD D,(HL) (R202)
  | ldDA -- 0x57 LD D,A (R200)
  | ldEB -- 0x58 LD E,B (R200)
  | ldEC -- 0x59 LD E,C (R200)
  | ldED -- 0x5A LD E,D (R200)
  | ldEE -- 0x5B LD E,E (R200)
  | ldEH -- 0x5C LD E,H (R200)
  | ldEL -- 0x5D LD E,L (R200)
  | ldEIndHl -- 0x5E LD E,(HL) (R202)
  | ldEA -- 0x5F LD E,A (R200)
  | ldHB -- 0x60 LD H,B (R200)
  | ldHC -- 0x61 LD H,C (R200)
  | ldHD -- 0x62 LD H,D (R200)
  | ldHE -- 0x63 LD H,E (R200)
  | ldHH -- 0x64 LD H,H (R200)
  | ldHL -- 0x65 LD H,L (R200)
  | ldHIndHl -- 0x66 LD H,(HL) (R202)
  | ldHA -- 0x67 LD H,A (R200)
  | ldLB -- 0x68 LD L,B (R200)
  | ldLC -- 0x69 LD L,C (R200)
  | ldLD -- 0x6A LD L,D (R200)
  | ldLE -- 0x6B LD L,E (R200)
  | ldLH -- 0x6C LD L,H (R200)
  | ldLL -- 0x6D LD L,L (R200)
  | ldLIndHl -- 0x6E LD L,(HL) (R202)
  | ldLA -- 0x6F LD L,A (R200)
  | ldIndHlB -- 0x70 LD (HL),B (R203)
  | ldIndHlC -- 0x71 LD (HL),C (R203)
  | ldIndHlD -- 0x72 LD (HL),D (R203)
  | ldIndHlE -- 0x73 LD (HL),E (R203)
  | ldIndHlH -- 0x74 LD (HL),H (R203)
  | ldIndHlL -- 0x75 LD (HL),L (R203)
  | ldIndHlA -- 0x77 LD (HL),A (R203)
  | ldAB -- 0x78 LD A,B (R200)
  | ldAC -- 0x79 LD A,C (R200)
  | ldAD -- 0x7A LD A,D (R200)
  | ldAE -- 0x7B LD A,E (R200)
  | ldAH -- 0x7C LD A,H (R200)
  | ldAL -- 0x7D LD A,L (R200)
  | ldAIndHl -- 0x7E LD A,(HL) (R202)
  | ldAA -- 0x7F LD A,A (R200)
  | ldhIndA8A (n : Byte) -- 0xE0 LDH (a8),A (R212)
  | ldIndCA -- 0xE2 LD (C),A (R214)
  | ldIndA16A (a : Word) -- 0xEA LD (a16),A (R210)
  | ldhAIndA8 (n : Byte) -- 0xF0 LDH A,(a8) (R211)
  | ldAIndC -- 0xF2 LD A,(C) (R213)
  | ldAIndA16 (a : Word) -- 0xFA LD A,(a16) (R209)
  -- 42_load16.md: 16-bit loads and the stack
  | ldBcN16 (n : Word) -- 0x01 LD BC,n16 (R230)
  | ldIndA16Sp (a : Word) -- 0x08 LD (a16),SP (R231)
  | ldDeN16 (n : Word) -- 0x11 LD DE,n16 (R230)
  | ldHlN16 (n : Word) -- 0x21 LD HL,n16 (R230)
  | ldSpN16 (n : Word) -- 0x31 LD SP,n16 (R230)
  | popBc -- 0xC1 POP BC (R235)
  | pushBc -- 0xC5 PUSH BC (R234)
  | popDe -- 0xD1 POP DE (R235)
  | pushDe -- 0xD5 PUSH DE (R234)
  | popHl -- 0xE1 POP HL (R235)
  | pushHl -- 0xE5 PUSH HL (R234)
  | popAf -- 0xF1 POP AF (R235)
  | pushAf -- 0xF5 PUSH AF (R234)
  | ldHlSpE8 (e : Byte) -- 0xF8 LD HL,SP+e8 (R233)
  | ldSpHl -- 0xF9 LD SP,HL (R232)
  -- 43_alu8.md: 8-bit arithmetic and logic
  | incB -- 0x04 INC B (R259)
  | decB -- 0x05 DEC B (R261)
  | incC -- 0x0C INC C (R259)
  | decC -- 0x0D DEC C (R261)
  | incD -- 0x14 INC D (R259)
  | decD -- 0x15 DEC D (R261)
  | incE -- 0x1C INC E (R259)
  | decE -- 0x1D DEC E (R261)
  | incH -- 0x24 INC H (R259)
  | decH -- 0x25 DEC H (R261)
  | daa -- 0x27 DAA (R263)
  | incL -- 0x2C INC L (R259)
  | decL -- 0x2D DEC L (R261)
  | cpl -- 0x2F CPL (R264)
  | incIndHl -- 0x34 INC (HL) (R260)
  | decIndHl -- 0x35 DEC (HL) (R262)
  | scf -- 0x37 SCF (R265)
  | incA -- 0x3C INC A (R259)
  | decA -- 0x3D DEC A (R261)
  | ccf -- 0x3F CCF (R266)
  | addAB -- 0x80 ADD A,B (R251)
  | addAC -- 0x81 ADD A,C (R251)
  | addAD -- 0x82 ADD A,D (R251)
  | addAE -- 0x83 ADD A,E (R251)
  | addAH -- 0x84 ADD A,H (R251)
  | addAL -- 0x85 ADD A,L (R251)
  | addAIndHl -- 0x86 ADD A,(HL) (R251)
  | addAA -- 0x87 ADD A,A (R251)
  | adcAB -- 0x88 ADC A,B (R252)
  | adcAC -- 0x89 ADC A,C (R252)
  | adcAD -- 0x8A ADC A,D (R252)
  | adcAE -- 0x8B ADC A,E (R252)
  | adcAH -- 0x8C ADC A,H (R252)
  | adcAL -- 0x8D ADC A,L (R252)
  | adcAIndHl -- 0x8E ADC A,(HL) (R252)
  | adcAA -- 0x8F ADC A,A (R252)
  | subAB -- 0x90 SUB A,B (R253)
  | subAC -- 0x91 SUB A,C (R253)
  | subAD -- 0x92 SUB A,D (R253)
  | subAE -- 0x93 SUB A,E (R253)
  | subAH -- 0x94 SUB A,H (R253)
  | subAL -- 0x95 SUB A,L (R253)
  | subAIndHl -- 0x96 SUB A,(HL) (R253)
  | subAA -- 0x97 SUB A,A (R253)
  | sbcAB -- 0x98 SBC A,B (R254)
  | sbcAC -- 0x99 SBC A,C (R254)
  | sbcAD -- 0x9A SBC A,D (R254)
  | sbcAE -- 0x9B SBC A,E (R254)
  | sbcAH -- 0x9C SBC A,H (R254)
  | sbcAL -- 0x9D SBC A,L (R254)
  | sbcAIndHl -- 0x9E SBC A,(HL) (R254)
  | sbcAA -- 0x9F SBC A,A (R254)
  | andAB -- 0xA0 AND A,B (R255)
  | andAC -- 0xA1 AND A,C (R255)
  | andAD -- 0xA2 AND A,D (R255)
  | andAE -- 0xA3 AND A,E (R255)
  | andAH -- 0xA4 AND A,H (R255)
  | andAL -- 0xA5 AND A,L (R255)
  | andAIndHl -- 0xA6 AND A,(HL) (R255)
  | andAA -- 0xA7 AND A,A (R255)
  | xorAB -- 0xA8 XOR A,B (R256)
  | xorAC -- 0xA9 XOR A,C (R256)
  | xorAD -- 0xAA XOR A,D (R256)
  | xorAE -- 0xAB XOR A,E (R256)
  | xorAH -- 0xAC XOR A,H (R256)
  | xorAL -- 0xAD XOR A,L (R256)
  | xorAIndHl -- 0xAE XOR A,(HL) (R256)
  | xorAA -- 0xAF XOR A,A (R256)
  | orAB -- 0xB0 OR A,B (R257)
  | orAC -- 0xB1 OR A,C (R257)
  | orAD -- 0xB2 OR A,D (R257)
  | orAE -- 0xB3 OR A,E (R257)
  | orAH -- 0xB4 OR A,H (R257)
  | orAL -- 0xB5 OR A,L (R257)
  | orAIndHl -- 0xB6 OR A,(HL) (R257)
  | orAA -- 0xB7 OR A,A (R257)
  | cpAB -- 0xB8 CP A,B (R258)
  | cpAC -- 0xB9 CP A,C (R258)
  | cpAD -- 0xBA CP A,D (R258)
  | cpAE -- 0xBB CP A,E (R258)
  | cpAH -- 0xBC CP A,H (R258)
  | cpAL -- 0xBD CP A,L (R258)
  | cpAIndHl -- 0xBE CP A,(HL) (R258)
  | cpAA -- 0xBF CP A,A (R258)
  | addAN8 (n : Byte) -- 0xC6 ADD A,n8 (R251)
  | adcAN8 (n : Byte) -- 0xCE ADC A,n8 (R252)
  | subAN8 (n : Byte) -- 0xD6 SUB A,n8 (R253)
  | sbcAN8 (n : Byte) -- 0xDE SBC A,n8 (R254)
  | andAN8 (n : Byte) -- 0xE6 AND A,n8 (R255)
  | xorAN8 (n : Byte) -- 0xEE XOR A,n8 (R256)
  | orAN8 (n : Byte) -- 0xF6 OR A,n8 (R257)
  | cpAN8 (n : Byte) -- 0xFE CP A,n8 (R258)
  -- 44_alu16.md: 16-bit arithmetic
  | incBc -- 0x03 INC BC (R291)
  | addHlBc -- 0x09 ADD HL,BC (R290)
  | decBc -- 0x0B DEC BC (R292)
  | incDe -- 0x13 INC DE (R291)
  | addHlDe -- 0x19 ADD HL,DE (R290)
  | decDe -- 0x1B DEC DE (R292)
  | incHl -- 0x23 INC HL (R291)
  | addHlHl -- 0x29 ADD HL,HL (R290)
  | decHl -- 0x2B DEC HL (R292)
  | incSp -- 0x33 INC SP (R291)
  | addHlSp -- 0x39 ADD HL,SP (R290)
  | decSp -- 0x3B DEC SP (R292)
  | addSpE8 (e : Byte) -- 0xE8 ADD SP,e8 (R293)
  -- 46_control.md: jumps, calls and returns
  | jrE8 (e : Byte) -- 0x18 JR e8 (R334)
  | jrNzE8 (e : Byte) -- 0x20 JR NZ,e8 (R335)
  | jrZE8 (e : Byte) -- 0x28 JR Z,e8 (R335)
  | jrNcE8 (e : Byte) -- 0x30 JR NC,e8 (R335)
  | jrCE8 (e : Byte) -- 0x38 JR C,e8 (R335)
  | retNz -- 0xC0 RET NZ (R339)
  | jpNzA16 (a : Word) -- 0xC2 JP NZ,a16 (R332)
  | jpA16 (a : Word) -- 0xC3 JP a16 (R331)
  | callNzA16 (a : Word) -- 0xC4 CALL NZ,a16 (R337)
  | rst00 -- 0xC7 RST $00 (R341)
  | retZ -- 0xC8 RET Z (R339)
  | ret -- 0xC9 RET (R338)
  | jpZA16 (a : Word) -- 0xCA JP Z,a16 (R332)
  | callZA16 (a : Word) -- 0xCC CALL Z,a16 (R337)
  | callA16 (a : Word) -- 0xCD CALL a16 (R336)
  | rst08 -- 0xCF RST $08 (R341)
  | retNc -- 0xD0 RET NC (R339)
  | jpNcA16 (a : Word) -- 0xD2 JP NC,a16 (R332)
  | callNcA16 (a : Word) -- 0xD4 CALL NC,a16 (R337)
  | rst10 -- 0xD7 RST $10 (R341)
  | retC -- 0xD8 RET C (R339)
  | reti -- 0xD9 RETI (R340)
  | jpCA16 (a : Word) -- 0xDA JP C,a16 (R332)
  | callCA16 (a : Word) -- 0xDC CALL C,a16 (R337)
  | rst18 -- 0xDF RST $18 (R341)
  | rst20 -- 0xE7 RST $20 (R341)
  | jpHl -- 0xE9 JP HL (R333)
  | rst28 -- 0xEF RST $28 (R341)
  | rst30 -- 0xF7 RST $30 (R341)
  | rst38 -- 0xFF RST $38 (R341)
  -- 47_system.md: NOP, HALT, STOP, DI, EI
  | nop -- 0x00 NOP (R360)
  | stop -- 0x10 STOP (R362)
  | halt -- 0x76 HALT (R361)
  | di -- 0xF3 DI (R363)
  | ei -- 0xFB EI (R364)
  -- 45_rotate_shift_bit.md: accumulator rotates, then the extended (0xCB) space
  | rlca -- 0x07 RLCA (R300)
  | rrca -- 0x0F RRCA (R301)
  | rla -- 0x17 RLA (R302)
  | rra -- 0x1F RRA (R303)
  | rlcB -- 0xCB 0x00 RLC B (R305)
  | rlcC -- 0xCB 0x01 RLC C (R305)
  | rlcD -- 0xCB 0x02 RLC D (R305)
  | rlcE -- 0xCB 0x03 RLC E (R305)
  | rlcH -- 0xCB 0x04 RLC H (R305)
  | rlcL -- 0xCB 0x05 RLC L (R305)
  | rlcIndHl -- 0xCB 0x06 RLC (HL) (R305)
  | rlcA -- 0xCB 0x07 RLC A (R305)
  | rrcB -- 0xCB 0x08 RRC B (R306)
  | rrcC -- 0xCB 0x09 RRC C (R306)
  | rrcD -- 0xCB 0x0A RRC D (R306)
  | rrcE -- 0xCB 0x0B RRC E (R306)
  | rrcH -- 0xCB 0x0C RRC H (R306)
  | rrcL -- 0xCB 0x0D RRC L (R306)
  | rrcIndHl -- 0xCB 0x0E RRC (HL) (R306)
  | rrcA -- 0xCB 0x0F RRC A (R306)
  | rlB -- 0xCB 0x10 RL B (R307)
  | rlC -- 0xCB 0x11 RL C (R307)
  | rlD -- 0xCB 0x12 RL D (R307)
  | rlE -- 0xCB 0x13 RL E (R307)
  | rlH -- 0xCB 0x14 RL H (R307)
  | rlL -- 0xCB 0x15 RL L (R307)
  | rlIndHl -- 0xCB 0x16 RL (HL) (R307)
  | rlA -- 0xCB 0x17 RL A (R307)
  | rrB -- 0xCB 0x18 RR B (R308)
  | rrC -- 0xCB 0x19 RR C (R308)
  | rrD -- 0xCB 0x1A RR D (R308)
  | rrE -- 0xCB 0x1B RR E (R308)
  | rrH -- 0xCB 0x1C RR H (R308)
  | rrL -- 0xCB 0x1D RR L (R308)
  | rrIndHl -- 0xCB 0x1E RR (HL) (R308)
  | rrA -- 0xCB 0x1F RR A (R308)
  | slaB -- 0xCB 0x20 SLA B (R309)
  | slaC -- 0xCB 0x21 SLA C (R309)
  | slaD -- 0xCB 0x22 SLA D (R309)
  | slaE -- 0xCB 0x23 SLA E (R309)
  | slaH -- 0xCB 0x24 SLA H (R309)
  | slaL -- 0xCB 0x25 SLA L (R309)
  | slaIndHl -- 0xCB 0x26 SLA (HL) (R309)
  | slaA -- 0xCB 0x27 SLA A (R309)
  | sraB -- 0xCB 0x28 SRA B (R310)
  | sraC -- 0xCB 0x29 SRA C (R310)
  | sraD -- 0xCB 0x2A SRA D (R310)
  | sraE -- 0xCB 0x2B SRA E (R310)
  | sraH -- 0xCB 0x2C SRA H (R310)
  | sraL -- 0xCB 0x2D SRA L (R310)
  | sraIndHl -- 0xCB 0x2E SRA (HL) (R310)
  | sraA -- 0xCB 0x2F SRA A (R310)
  | swapB -- 0xCB 0x30 SWAP B (R311)
  | swapC -- 0xCB 0x31 SWAP C (R311)
  | swapD -- 0xCB 0x32 SWAP D (R311)
  | swapE -- 0xCB 0x33 SWAP E (R311)
  | swapH -- 0xCB 0x34 SWAP H (R311)
  | swapL -- 0xCB 0x35 SWAP L (R311)
  | swapIndHl -- 0xCB 0x36 SWAP (HL) (R311)
  | swapA -- 0xCB 0x37 SWAP A (R311)
  | srlB -- 0xCB 0x38 SRL B (R312)
  | srlC -- 0xCB 0x39 SRL C (R312)
  | srlD -- 0xCB 0x3A SRL D (R312)
  | srlE -- 0xCB 0x3B SRL E (R312)
  | srlH -- 0xCB 0x3C SRL H (R312)
  | srlL -- 0xCB 0x3D SRL L (R312)
  | srlIndHl -- 0xCB 0x3E SRL (HL) (R312)
  | srlA -- 0xCB 0x3F SRL A (R312)
  | bit0B -- 0xCB 0x40 BIT 0,B (R313)
  | bit0C -- 0xCB 0x41 BIT 0,C (R313)
  | bit0D -- 0xCB 0x42 BIT 0,D (R313)
  | bit0E -- 0xCB 0x43 BIT 0,E (R313)
  | bit0H -- 0xCB 0x44 BIT 0,H (R313)
  | bit0L -- 0xCB 0x45 BIT 0,L (R313)
  | bit0IndHl -- 0xCB 0x46 BIT 0,(HL) (R313)
  | bit0A -- 0xCB 0x47 BIT 0,A (R313)
  | bit1B -- 0xCB 0x48 BIT 1,B (R313)
  | bit1C -- 0xCB 0x49 BIT 1,C (R313)
  | bit1D -- 0xCB 0x4A BIT 1,D (R313)
  | bit1E -- 0xCB 0x4B BIT 1,E (R313)
  | bit1H -- 0xCB 0x4C BIT 1,H (R313)
  | bit1L -- 0xCB 0x4D BIT 1,L (R313)
  | bit1IndHl -- 0xCB 0x4E BIT 1,(HL) (R313)
  | bit1A -- 0xCB 0x4F BIT 1,A (R313)
  | bit2B -- 0xCB 0x50 BIT 2,B (R313)
  | bit2C -- 0xCB 0x51 BIT 2,C (R313)
  | bit2D -- 0xCB 0x52 BIT 2,D (R313)
  | bit2E -- 0xCB 0x53 BIT 2,E (R313)
  | bit2H -- 0xCB 0x54 BIT 2,H (R313)
  | bit2L -- 0xCB 0x55 BIT 2,L (R313)
  | bit2IndHl -- 0xCB 0x56 BIT 2,(HL) (R313)
  | bit2A -- 0xCB 0x57 BIT 2,A (R313)
  | bit3B -- 0xCB 0x58 BIT 3,B (R313)
  | bit3C -- 0xCB 0x59 BIT 3,C (R313)
  | bit3D -- 0xCB 0x5A BIT 3,D (R313)
  | bit3E -- 0xCB 0x5B BIT 3,E (R313)
  | bit3H -- 0xCB 0x5C BIT 3,H (R313)
  | bit3L -- 0xCB 0x5D BIT 3,L (R313)
  | bit3IndHl -- 0xCB 0x5E BIT 3,(HL) (R313)
  | bit3A -- 0xCB 0x5F BIT 3,A (R313)
  | bit4B -- 0xCB 0x60 BIT 4,B (R313)
  | bit4C -- 0xCB 0x61 BIT 4,C (R313)
  | bit4D -- 0xCB 0x62 BIT 4,D (R313)
  | bit4E -- 0xCB 0x63 BIT 4,E (R313)
  | bit4H -- 0xCB 0x64 BIT 4,H (R313)
  | bit4L -- 0xCB 0x65 BIT 4,L (R313)
  | bit4IndHl -- 0xCB 0x66 BIT 4,(HL) (R313)
  | bit4A -- 0xCB 0x67 BIT 4,A (R313)
  | bit5B -- 0xCB 0x68 BIT 5,B (R313)
  | bit5C -- 0xCB 0x69 BIT 5,C (R313)
  | bit5D -- 0xCB 0x6A BIT 5,D (R313)
  | bit5E -- 0xCB 0x6B BIT 5,E (R313)
  | bit5H -- 0xCB 0x6C BIT 5,H (R313)
  | bit5L -- 0xCB 0x6D BIT 5,L (R313)
  | bit5IndHl -- 0xCB 0x6E BIT 5,(HL) (R313)
  | bit5A -- 0xCB 0x6F BIT 5,A (R313)
  | bit6B -- 0xCB 0x70 BIT 6,B (R313)
  | bit6C -- 0xCB 0x71 BIT 6,C (R313)
  | bit6D -- 0xCB 0x72 BIT 6,D (R313)
  | bit6E -- 0xCB 0x73 BIT 6,E (R313)
  | bit6H -- 0xCB 0x74 BIT 6,H (R313)
  | bit6L -- 0xCB 0x75 BIT 6,L (R313)
  | bit6IndHl -- 0xCB 0x76 BIT 6,(HL) (R313)
  | bit6A -- 0xCB 0x77 BIT 6,A (R313)
  | bit7B -- 0xCB 0x78 BIT 7,B (R313)
  | bit7C -- 0xCB 0x79 BIT 7,C (R313)
  | bit7D -- 0xCB 0x7A BIT 7,D (R313)
  | bit7E -- 0xCB 0x7B BIT 7,E (R313)
  | bit7H -- 0xCB 0x7C BIT 7,H (R313)
  | bit7L -- 0xCB 0x7D BIT 7,L (R313)
  | bit7IndHl -- 0xCB 0x7E BIT 7,(HL) (R313)
  | bit7A -- 0xCB 0x7F BIT 7,A (R313)
  | res0B -- 0xCB 0x80 RES 0,B (R314)
  | res0C -- 0xCB 0x81 RES 0,C (R314)
  | res0D -- 0xCB 0x82 RES 0,D (R314)
  | res0E -- 0xCB 0x83 RES 0,E (R314)
  | res0H -- 0xCB 0x84 RES 0,H (R314)
  | res0L -- 0xCB 0x85 RES 0,L (R314)
  | res0IndHl -- 0xCB 0x86 RES 0,(HL) (R314)
  | res0A -- 0xCB 0x87 RES 0,A (R314)
  | res1B -- 0xCB 0x88 RES 1,B (R314)
  | res1C -- 0xCB 0x89 RES 1,C (R314)
  | res1D -- 0xCB 0x8A RES 1,D (R314)
  | res1E -- 0xCB 0x8B RES 1,E (R314)
  | res1H -- 0xCB 0x8C RES 1,H (R314)
  | res1L -- 0xCB 0x8D RES 1,L (R314)
  | res1IndHl -- 0xCB 0x8E RES 1,(HL) (R314)
  | res1A -- 0xCB 0x8F RES 1,A (R314)
  | res2B -- 0xCB 0x90 RES 2,B (R314)
  | res2C -- 0xCB 0x91 RES 2,C (R314)
  | res2D -- 0xCB 0x92 RES 2,D (R314)
  | res2E -- 0xCB 0x93 RES 2,E (R314)
  | res2H -- 0xCB 0x94 RES 2,H (R314)
  | res2L -- 0xCB 0x95 RES 2,L (R314)
  | res2IndHl -- 0xCB 0x96 RES 2,(HL) (R314)
  | res2A -- 0xCB 0x97 RES 2,A (R314)
  | res3B -- 0xCB 0x98 RES 3,B (R314)
  | res3C -- 0xCB 0x99 RES 3,C (R314)
  | res3D -- 0xCB 0x9A RES 3,D (R314)
  | res3E -- 0xCB 0x9B RES 3,E (R314)
  | res3H -- 0xCB 0x9C RES 3,H (R314)
  | res3L -- 0xCB 0x9D RES 3,L (R314)
  | res3IndHl -- 0xCB 0x9E RES 3,(HL) (R314)
  | res3A -- 0xCB 0x9F RES 3,A (R314)
  | res4B -- 0xCB 0xA0 RES 4,B (R314)
  | res4C -- 0xCB 0xA1 RES 4,C (R314)
  | res4D -- 0xCB 0xA2 RES 4,D (R314)
  | res4E -- 0xCB 0xA3 RES 4,E (R314)
  | res4H -- 0xCB 0xA4 RES 4,H (R314)
  | res4L -- 0xCB 0xA5 RES 4,L (R314)
  | res4IndHl -- 0xCB 0xA6 RES 4,(HL) (R314)
  | res4A -- 0xCB 0xA7 RES 4,A (R314)
  | res5B -- 0xCB 0xA8 RES 5,B (R314)
  | res5C -- 0xCB 0xA9 RES 5,C (R314)
  | res5D -- 0xCB 0xAA RES 5,D (R314)
  | res5E -- 0xCB 0xAB RES 5,E (R314)
  | res5H -- 0xCB 0xAC RES 5,H (R314)
  | res5L -- 0xCB 0xAD RES 5,L (R314)
  | res5IndHl -- 0xCB 0xAE RES 5,(HL) (R314)
  | res5A -- 0xCB 0xAF RES 5,A (R314)
  | res6B -- 0xCB 0xB0 RES 6,B (R314)
  | res6C -- 0xCB 0xB1 RES 6,C (R314)
  | res6D -- 0xCB 0xB2 RES 6,D (R314)
  | res6E -- 0xCB 0xB3 RES 6,E (R314)
  | res6H -- 0xCB 0xB4 RES 6,H (R314)
  | res6L -- 0xCB 0xB5 RES 6,L (R314)
  | res6IndHl -- 0xCB 0xB6 RES 6,(HL) (R314)
  | res6A -- 0xCB 0xB7 RES 6,A (R314)
  | res7B -- 0xCB 0xB8 RES 7,B (R314)
  | res7C -- 0xCB 0xB9 RES 7,C (R314)
  | res7D -- 0xCB 0xBA RES 7,D (R314)
  | res7E -- 0xCB 0xBB RES 7,E (R314)
  | res7H -- 0xCB 0xBC RES 7,H (R314)
  | res7L -- 0xCB 0xBD RES 7,L (R314)
  | res7IndHl -- 0xCB 0xBE RES 7,(HL) (R314)
  | res7A -- 0xCB 0xBF RES 7,A (R314)
  | set0B -- 0xCB 0xC0 SET 0,B (R315)
  | set0C -- 0xCB 0xC1 SET 0,C (R315)
  | set0D -- 0xCB 0xC2 SET 0,D (R315)
  | set0E -- 0xCB 0xC3 SET 0,E (R315)
  | set0H -- 0xCB 0xC4 SET 0,H (R315)
  | set0L -- 0xCB 0xC5 SET 0,L (R315)
  | set0IndHl -- 0xCB 0xC6 SET 0,(HL) (R315)
  | set0A -- 0xCB 0xC7 SET 0,A (R315)
  | set1B -- 0xCB 0xC8 SET 1,B (R315)
  | set1C -- 0xCB 0xC9 SET 1,C (R315)
  | set1D -- 0xCB 0xCA SET 1,D (R315)
  | set1E -- 0xCB 0xCB SET 1,E (R315)
  | set1H -- 0xCB 0xCC SET 1,H (R315)
  | set1L -- 0xCB 0xCD SET 1,L (R315)
  | set1IndHl -- 0xCB 0xCE SET 1,(HL) (R315)
  | set1A -- 0xCB 0xCF SET 1,A (R315)
  | set2B -- 0xCB 0xD0 SET 2,B (R315)
  | set2C -- 0xCB 0xD1 SET 2,C (R315)
  | set2D -- 0xCB 0xD2 SET 2,D (R315)
  | set2E -- 0xCB 0xD3 SET 2,E (R315)
  | set2H -- 0xCB 0xD4 SET 2,H (R315)
  | set2L -- 0xCB 0xD5 SET 2,L (R315)
  | set2IndHl -- 0xCB 0xD6 SET 2,(HL) (R315)
  | set2A -- 0xCB 0xD7 SET 2,A (R315)
  | set3B -- 0xCB 0xD8 SET 3,B (R315)
  | set3C -- 0xCB 0xD9 SET 3,C (R315)
  | set3D -- 0xCB 0xDA SET 3,D (R315)
  | set3E -- 0xCB 0xDB SET 3,E (R315)
  | set3H -- 0xCB 0xDC SET 3,H (R315)
  | set3L -- 0xCB 0xDD SET 3,L (R315)
  | set3IndHl -- 0xCB 0xDE SET 3,(HL) (R315)
  | set3A -- 0xCB 0xDF SET 3,A (R315)
  | set4B -- 0xCB 0xE0 SET 4,B (R315)
  | set4C -- 0xCB 0xE1 SET 4,C (R315)
  | set4D -- 0xCB 0xE2 SET 4,D (R315)
  | set4E -- 0xCB 0xE3 SET 4,E (R315)
  | set4H -- 0xCB 0xE4 SET 4,H (R315)
  | set4L -- 0xCB 0xE5 SET 4,L (R315)
  | set4IndHl -- 0xCB 0xE6 SET 4,(HL) (R315)
  | set4A -- 0xCB 0xE7 SET 4,A (R315)
  | set5B -- 0xCB 0xE8 SET 5,B (R315)
  | set5C -- 0xCB 0xE9 SET 5,C (R315)
  | set5D -- 0xCB 0xEA SET 5,D (R315)
  | set5E -- 0xCB 0xEB SET 5,E (R315)
  | set5H -- 0xCB 0xEC SET 5,H (R315)
  | set5L -- 0xCB 0xED SET 5,L (R315)
  | set5IndHl -- 0xCB 0xEE SET 5,(HL) (R315)
  | set5A -- 0xCB 0xEF SET 5,A (R315)
  | set6B -- 0xCB 0xF0 SET 6,B (R315)
  | set6C -- 0xCB 0xF1 SET 6,C (R315)
  | set6D -- 0xCB 0xF2 SET 6,D (R315)
  | set6E -- 0xCB 0xF3 SET 6,E (R315)
  | set6H -- 0xCB 0xF4 SET 6,H (R315)
  | set6L -- 0xCB 0xF5 SET 6,L (R315)
  | set6IndHl -- 0xCB 0xF6 SET 6,(HL) (R315)
  | set6A -- 0xCB 0xF7 SET 6,A (R315)
  | set7B -- 0xCB 0xF8 SET 7,B (R315)
  | set7C -- 0xCB 0xF9 SET 7,C (R315)
  | set7D -- 0xCB 0xFA SET 7,D (R315)
  | set7E -- 0xCB 0xFB SET 7,E (R315)
  | set7H -- 0xCB 0xFC SET 7,H (R315)
  | set7L -- 0xCB 0xFD SET 7,L (R315)
  | set7IndHl -- 0xCB 0xFE SET 7,(HL) (R315)
  | set7A -- 0xCB 0xFF SET 7,A (R315)
  deriving DecidableEq, Repr

end Sys2Proof
end

