-- ==== Sys2Proof/Decode.lean ====
section
/-! DEFINITION. Decoding by the bit fields of R140 to R148, the encoder written from the opcode tables (section 8 of
30_encoding.md and R148), and the host's reading of one opcode-table word.

The family functions name the constructor that the operand fields of a group select. The decoder goes through the
fields x, y, z, p, q of R147 and R148; the encoder lists the byte of every row. They meet in `decode (encode i)`. -/

namespace Sys2Proof

/-! ### Bytes and words -/

/-- Bits 15 to 8 of a word. -/
def Word.hi (w : Word) : Byte := w.extractLsb' 8 8

/-- Bits 7 to 0 of a word. -/
def Word.lo (w : Word) : Byte := w.extractLsb' 0 8

/-- `hi:lo`, that is `(hi << 8) | lo` (R11). -/
def Word.ofBytes (hi lo : Byte) : Word := hi ++ lo

/-! ### Operand codes (R140 to R143) -/

/-- R140. -/
def Operand8.ofCode (n : Nat) : Operand8 :=
  match n with
  | 0 => .reg .b
  | 1 => .reg .c
  | 2 => .reg .d
  | 3 => .reg .e
  | 4 => .reg .h
  | 5 => .reg .l
  | 6 => .indHl
  | _ => .reg .a

/-- R141. -/
def Reg16.ofCode (n : Nat) : Reg16 :=
  match n with
  | 0 => .bc
  | 1 => .de
  | 2 => .hl
  | _ => .sp

/-- R142. -/
def StackPair.ofCode (n : Nat) : StackPair :=
  match n with
  | 0 => .bc
  | 1 => .de
  | 2 => .hl
  | _ => .af

/-- R143, code `c`. -/
def Cond.ofCode (n : Nat) : Cond :=
  match n with
  | 0 => .nz
  | 1 => .z
  | 2 => .nc
  | _ => .c

/-- R143, ALU code `o`. -/
def AluOp.ofCode (n : Nat) : AluOp :=
  match n with
  | 0 => .add
  | 1 => .adc
  | 2 => .sub
  | 3 => .sbc
  | 4 => .and
  | 5 => .xor
  | 6 => .or
  | _ => .cp

/-- R143, shift code `o`. -/
def ShiftOp.ofCode (n : Nat) : ShiftOp :=
  match n with
  | 0 => .rlc
  | 1 => .rrc
  | 2 => .rl
  | 3 => .rr
  | 4 => .sla
  | 5 => .sra
  | 6 => .swap
  | _ => .srl

/-- R143, bit index `b`. -/
def BitIndex.ofCode (n : Nat) : BitIndex :=
  match n with
  | 0 => .b0
  | 1 => .b1
  | 2 => .b2
  | 3 => .b3
  | 4 => .b4
  | 5 => .b5
  | 6 => .b6
  | _ => .b7

/-- R143, RST field `t`. -/
def RstTarget.ofCode (n : Nat) : RstTarget :=
  match n with
  | 0 => .t00
  | 1 => .t08
  | 2 => .t10
  | 3 => .t18
  | 4 => .t20
  | 5 => .t28
  | 6 => .t30
  | _ => .t38

/-! ### The instruction of each group that the operand fields select -/

/-- `LD r,r'` (R200). -/
def Instr.ldRegReg : Reg8 → Reg8 → Instr
  | .b, .b => .ldBB
  | .b, .c => .ldBC
  | .b, .d => .ldBD
  | .b, .e => .ldBE
  | .b, .h => .ldBH
  | .b, .l => .ldBL
  | .b, .a => .ldBA
  | .c, .b => .ldCB
  | .c, .c => .ldCC
  | .c, .d => .ldCD
  | .c, .e => .ldCE
  | .c, .h => .ldCH
  | .c, .l => .ldCL
  | .c, .a => .ldCA
  | .d, .b => .ldDB
  | .d, .c => .ldDC
  | .d, .d => .ldDD
  | .d, .e => .ldDE
  | .d, .h => .ldDH
  | .d, .l => .ldDL
  | .d, .a => .ldDA
  | .e, .b => .ldEB
  | .e, .c => .ldEC
  | .e, .d => .ldED
  | .e, .e => .ldEE
  | .e, .h => .ldEH
  | .e, .l => .ldEL
  | .e, .a => .ldEA
  | .h, .b => .ldHB
  | .h, .c => .ldHC
  | .h, .d => .ldHD
  | .h, .e => .ldHE
  | .h, .h => .ldHH
  | .h, .l => .ldHL
  | .h, .a => .ldHA
  | .l, .b => .ldLB
  | .l, .c => .ldLC
  | .l, .d => .ldLD
  | .l, .e => .ldLE
  | .l, .h => .ldLH
  | .l, .l => .ldLL
  | .l, .a => .ldLA
  | .a, .b => .ldAB
  | .a, .c => .ldAC
  | .a, .d => .ldAD
  | .a, .e => .ldAE
  | .a, .h => .ldAH
  | .a, .l => .ldAL
  | .a, .a => .ldAA

/-- `LD r,n8` (R201). -/
def Instr.ldRegN8 : Reg8 → Byte → Instr
  | .b, n => .ldBN8 n
  | .c, n => .ldCN8 n
  | .d, n => .ldDN8 n
  | .e, n => .ldEN8 n
  | .h, n => .ldHN8 n
  | .l, n => .ldLN8 n
  | .a, n => .ldAN8 n

/-- `LD r,(HL)` (R202). -/
def Instr.ldRegIndHl : Reg8 → Instr
  | .b => .ldBIndHl
  | .c => .ldCIndHl
  | .d => .ldDIndHl
  | .e => .ldEIndHl
  | .h => .ldHIndHl
  | .l => .ldLIndHl
  | .a => .ldAIndHl

/-- `LD (HL),r` (R203). -/
def Instr.ldIndHlReg : Reg8 → Instr
  | .b => .ldIndHlB
  | .c => .ldIndHlC
  | .d => .ldIndHlD
  | .e => .ldIndHlE
  | .h => .ldIndHlH
  | .l => .ldIndHlL
  | .a => .ldIndHlA

/-- `LD rr,n16` (R230). -/
def Instr.ldPairN16 : Reg16 → Word → Instr
  | .bc, n => .ldBcN16 n
  | .de, n => .ldDeN16 n
  | .hl, n => .ldHlN16 n
  | .sp, n => .ldSpN16 n

/-- `PUSH qq` (R234). -/
def Instr.push : StackPair → Instr
  | .bc => .pushBc
  | .de => .pushDe
  | .hl => .pushHl
  | .af => .pushAf

/-- `POP qq` (R235). -/
def Instr.pop : StackPair → Instr
  | .bc => .popBc
  | .de => .popDe
  | .hl => .popHl
  | .af => .popAf

/-- The 8-bit ALU group `op A,src` (R250 to R258). -/
def Instr.alu : AluOp → AluSource → Instr
  | .add, .reg .b => .addAB
  | .add, .reg .c => .addAC
  | .add, .reg .d => .addAD
  | .add, .reg .e => .addAE
  | .add, .reg .h => .addAH
  | .add, .reg .l => .addAL
  | .add, .reg .a => .addAA
  | .add, .indHl => .addAIndHl
  | .add, .imm n => .addAN8 n
  | .adc, .reg .b => .adcAB
  | .adc, .reg .c => .adcAC
  | .adc, .reg .d => .adcAD
  | .adc, .reg .e => .adcAE
  | .adc, .reg .h => .adcAH
  | .adc, .reg .l => .adcAL
  | .adc, .reg .a => .adcAA
  | .adc, .indHl => .adcAIndHl
  | .adc, .imm n => .adcAN8 n
  | .sub, .reg .b => .subAB
  | .sub, .reg .c => .subAC
  | .sub, .reg .d => .subAD
  | .sub, .reg .e => .subAE
  | .sub, .reg .h => .subAH
  | .sub, .reg .l => .subAL
  | .sub, .reg .a => .subAA
  | .sub, .indHl => .subAIndHl
  | .sub, .imm n => .subAN8 n
  | .sbc, .reg .b => .sbcAB
  | .sbc, .reg .c => .sbcAC
  | .sbc, .reg .d => .sbcAD
  | .sbc, .reg .e => .sbcAE
  | .sbc, .reg .h => .sbcAH
  | .sbc, .reg .l => .sbcAL
  | .sbc, .reg .a => .sbcAA
  | .sbc, .indHl => .sbcAIndHl
  | .sbc, .imm n => .sbcAN8 n
  | .and, .reg .b => .andAB
  | .and, .reg .c => .andAC
  | .and, .reg .d => .andAD
  | .and, .reg .e => .andAE
  | .and, .reg .h => .andAH
  | .and, .reg .l => .andAL
  | .and, .reg .a => .andAA
  | .and, .indHl => .andAIndHl
  | .and, .imm n => .andAN8 n
  | .xor, .reg .b => .xorAB
  | .xor, .reg .c => .xorAC
  | .xor, .reg .d => .xorAD
  | .xor, .reg .e => .xorAE
  | .xor, .reg .h => .xorAH
  | .xor, .reg .l => .xorAL
  | .xor, .reg .a => .xorAA
  | .xor, .indHl => .xorAIndHl
  | .xor, .imm n => .xorAN8 n
  | .or, .reg .b => .orAB
  | .or, .reg .c => .orAC
  | .or, .reg .d => .orAD
  | .or, .reg .e => .orAE
  | .or, .reg .h => .orAH
  | .or, .reg .l => .orAL
  | .or, .reg .a => .orAA
  | .or, .indHl => .orAIndHl
  | .or, .imm n => .orAN8 n
  | .cp, .reg .b => .cpAB
  | .cp, .reg .c => .cpAC
  | .cp, .reg .d => .cpAD
  | .cp, .reg .e => .cpAE
  | .cp, .reg .h => .cpAH
  | .cp, .reg .l => .cpAL
  | .cp, .reg .a => .cpAA
  | .cp, .indHl => .cpAIndHl
  | .cp, .imm n => .cpAN8 n

/-- `INC r` and `INC (HL)` (R259, R260). -/
def Instr.inc8 : Operand8 → Instr
  | .reg .b => .incB
  | .reg .c => .incC
  | .reg .d => .incD
  | .reg .e => .incE
  | .reg .h => .incH
  | .reg .l => .incL
  | .indHl => .incIndHl
  | .reg .a => .incA

/-- `DEC r` and `DEC (HL)` (R261, R262). -/
def Instr.dec8 : Operand8 → Instr
  | .reg .b => .decB
  | .reg .c => .decC
  | .reg .d => .decD
  | .reg .e => .decE
  | .reg .h => .decH
  | .reg .l => .decL
  | .indHl => .decIndHl
  | .reg .a => .decA

/-- `ADD HL,rr` (R290). -/
def Instr.addHl : Reg16 → Instr
  | .bc => .addHlBc
  | .de => .addHlDe
  | .hl => .addHlHl
  | .sp => .addHlSp

/-- `INC rr` (R291). -/
def Instr.inc16 : Reg16 → Instr
  | .bc => .incBc
  | .de => .incDe
  | .hl => .incHl
  | .sp => .incSp

/-- `DEC rr` (R292). -/
def Instr.dec16 : Reg16 → Instr
  | .bc => .decBc
  | .de => .decDe
  | .hl => .decHl
  | .sp => .decSp

/-- The shifts and rotates of the extended space (R305 to R312). -/
def Instr.shift : ShiftOp → Operand8 → Instr
  | .rlc, .reg .b => .rlcB
  | .rlc, .reg .c => .rlcC
  | .rlc, .reg .d => .rlcD
  | .rlc, .reg .e => .rlcE
  | .rlc, .reg .h => .rlcH
  | .rlc, .reg .l => .rlcL
  | .rlc, .indHl => .rlcIndHl
  | .rlc, .reg .a => .rlcA
  | .rrc, .reg .b => .rrcB
  | .rrc, .reg .c => .rrcC
  | .rrc, .reg .d => .rrcD
  | .rrc, .reg .e => .rrcE
  | .rrc, .reg .h => .rrcH
  | .rrc, .reg .l => .rrcL
  | .rrc, .indHl => .rrcIndHl
  | .rrc, .reg .a => .rrcA
  | .rl, .reg .b => .rlB
  | .rl, .reg .c => .rlC
  | .rl, .reg .d => .rlD
  | .rl, .reg .e => .rlE
  | .rl, .reg .h => .rlH
  | .rl, .reg .l => .rlL
  | .rl, .indHl => .rlIndHl
  | .rl, .reg .a => .rlA
  | .rr, .reg .b => .rrB
  | .rr, .reg .c => .rrC
  | .rr, .reg .d => .rrD
  | .rr, .reg .e => .rrE
  | .rr, .reg .h => .rrH
  | .rr, .reg .l => .rrL
  | .rr, .indHl => .rrIndHl
  | .rr, .reg .a => .rrA
  | .sla, .reg .b => .slaB
  | .sla, .reg .c => .slaC
  | .sla, .reg .d => .slaD
  | .sla, .reg .e => .slaE
  | .sla, .reg .h => .slaH
  | .sla, .reg .l => .slaL
  | .sla, .indHl => .slaIndHl
  | .sla, .reg .a => .slaA
  | .sra, .reg .b => .sraB
  | .sra, .reg .c => .sraC
  | .sra, .reg .d => .sraD
  | .sra, .reg .e => .sraE
  | .sra, .reg .h => .sraH
  | .sra, .reg .l => .sraL
  | .sra, .indHl => .sraIndHl
  | .sra, .reg .a => .sraA
  | .swap, .reg .b => .swapB
  | .swap, .reg .c => .swapC
  | .swap, .reg .d => .swapD
  | .swap, .reg .e => .swapE
  | .swap, .reg .h => .swapH
  | .swap, .reg .l => .swapL
  | .swap, .indHl => .swapIndHl
  | .swap, .reg .a => .swapA
  | .srl, .reg .b => .srlB
  | .srl, .reg .c => .srlC
  | .srl, .reg .d => .srlD
  | .srl, .reg .e => .srlE
  | .srl, .reg .h => .srlH
  | .srl, .reg .l => .srlL
  | .srl, .indHl => .srlIndHl
  | .srl, .reg .a => .srlA

/-- `BIT b,r` (R313). -/
def Instr.bit : BitIndex → Operand8 → Instr
  | .b0, .reg .b => .bit0B
  | .b0, .reg .c => .bit0C
  | .b0, .reg .d => .bit0D
  | .b0, .reg .e => .bit0E
  | .b0, .reg .h => .bit0H
  | .b0, .reg .l => .bit0L
  | .b0, .indHl => .bit0IndHl
  | .b0, .reg .a => .bit0A
  | .b1, .reg .b => .bit1B
  | .b1, .reg .c => .bit1C
  | .b1, .reg .d => .bit1D
  | .b1, .reg .e => .bit1E
  | .b1, .reg .h => .bit1H
  | .b1, .reg .l => .bit1L
  | .b1, .indHl => .bit1IndHl
  | .b1, .reg .a => .bit1A
  | .b2, .reg .b => .bit2B
  | .b2, .reg .c => .bit2C
  | .b2, .reg .d => .bit2D
  | .b2, .reg .e => .bit2E
  | .b2, .reg .h => .bit2H
  | .b2, .reg .l => .bit2L
  | .b2, .indHl => .bit2IndHl
  | .b2, .reg .a => .bit2A
  | .b3, .reg .b => .bit3B
  | .b3, .reg .c => .bit3C
  | .b3, .reg .d => .bit3D
  | .b3, .reg .e => .bit3E
  | .b3, .reg .h => .bit3H
  | .b3, .reg .l => .bit3L
  | .b3, .indHl => .bit3IndHl
  | .b3, .reg .a => .bit3A
  | .b4, .reg .b => .bit4B
  | .b4, .reg .c => .bit4C
  | .b4, .reg .d => .bit4D
  | .b4, .reg .e => .bit4E
  | .b4, .reg .h => .bit4H
  | .b4, .reg .l => .bit4L
  | .b4, .indHl => .bit4IndHl
  | .b4, .reg .a => .bit4A
  | .b5, .reg .b => .bit5B
  | .b5, .reg .c => .bit5C
  | .b5, .reg .d => .bit5D
  | .b5, .reg .e => .bit5E
  | .b5, .reg .h => .bit5H
  | .b5, .reg .l => .bit5L
  | .b5, .indHl => .bit5IndHl
  | .b5, .reg .a => .bit5A
  | .b6, .reg .b => .bit6B
  | .b6, .reg .c => .bit6C
  | .b6, .reg .d => .bit6D
  | .b6, .reg .e => .bit6E
  | .b6, .reg .h => .bit6H
  | .b6, .reg .l => .bit6L
  | .b6, .indHl => .bit6IndHl
  | .b6, .reg .a => .bit6A
  | .b7, .reg .b => .bit7B
  | .b7, .reg .c => .bit7C
  | .b7, .reg .d => .bit7D
  | .b7, .reg .e => .bit7E
  | .b7, .reg .h => .bit7H
  | .b7, .reg .l => .bit7L
  | .b7, .indHl => .bit7IndHl
  | .b7, .reg .a => .bit7A

/-- `RES b,r` (R314). -/
def Instr.res : BitIndex → Operand8 → Instr
  | .b0, .reg .b => .res0B
  | .b0, .reg .c => .res0C
  | .b0, .reg .d => .res0D
  | .b0, .reg .e => .res0E
  | .b0, .reg .h => .res0H
  | .b0, .reg .l => .res0L
  | .b0, .indHl => .res0IndHl
  | .b0, .reg .a => .res0A
  | .b1, .reg .b => .res1B
  | .b1, .reg .c => .res1C
  | .b1, .reg .d => .res1D
  | .b1, .reg .e => .res1E
  | .b1, .reg .h => .res1H
  | .b1, .reg .l => .res1L
  | .b1, .indHl => .res1IndHl
  | .b1, .reg .a => .res1A
  | .b2, .reg .b => .res2B
  | .b2, .reg .c => .res2C
  | .b2, .reg .d => .res2D
  | .b2, .reg .e => .res2E
  | .b2, .reg .h => .res2H
  | .b2, .reg .l => .res2L
  | .b2, .indHl => .res2IndHl
  | .b2, .reg .a => .res2A
  | .b3, .reg .b => .res3B
  | .b3, .reg .c => .res3C
  | .b3, .reg .d => .res3D
  | .b3, .reg .e => .res3E
  | .b3, .reg .h => .res3H
  | .b3, .reg .l => .res3L
  | .b3, .indHl => .res3IndHl
  | .b3, .reg .a => .res3A
  | .b4, .reg .b => .res4B
  | .b4, .reg .c => .res4C
  | .b4, .reg .d => .res4D
  | .b4, .reg .e => .res4E
  | .b4, .reg .h => .res4H
  | .b4, .reg .l => .res4L
  | .b4, .indHl => .res4IndHl
  | .b4, .reg .a => .res4A
  | .b5, .reg .b => .res5B
  | .b5, .reg .c => .res5C
  | .b5, .reg .d => .res5D
  | .b5, .reg .e => .res5E
  | .b5, .reg .h => .res5H
  | .b5, .reg .l => .res5L
  | .b5, .indHl => .res5IndHl
  | .b5, .reg .a => .res5A
  | .b6, .reg .b => .res6B
  | .b6, .reg .c => .res6C
  | .b6, .reg .d => .res6D
  | .b6, .reg .e => .res6E
  | .b6, .reg .h => .res6H
  | .b6, .reg .l => .res6L
  | .b6, .indHl => .res6IndHl
  | .b6, .reg .a => .res6A
  | .b7, .reg .b => .res7B
  | .b7, .reg .c => .res7C
  | .b7, .reg .d => .res7D
  | .b7, .reg .e => .res7E
  | .b7, .reg .h => .res7H
  | .b7, .reg .l => .res7L
  | .b7, .indHl => .res7IndHl
  | .b7, .reg .a => .res7A

/-- `SET b,r` (R315). -/
def Instr.set : BitIndex → Operand8 → Instr
  | .b0, .reg .b => .set0B
  | .b0, .reg .c => .set0C
  | .b0, .reg .d => .set0D
  | .b0, .reg .e => .set0E
  | .b0, .reg .h => .set0H
  | .b0, .reg .l => .set0L
  | .b0, .indHl => .set0IndHl
  | .b0, .reg .a => .set0A
  | .b1, .reg .b => .set1B
  | .b1, .reg .c => .set1C
  | .b1, .reg .d => .set1D
  | .b1, .reg .e => .set1E
  | .b1, .reg .h => .set1H
  | .b1, .reg .l => .set1L
  | .b1, .indHl => .set1IndHl
  | .b1, .reg .a => .set1A
  | .b2, .reg .b => .set2B
  | .b2, .reg .c => .set2C
  | .b2, .reg .d => .set2D
  | .b2, .reg .e => .set2E
  | .b2, .reg .h => .set2H
  | .b2, .reg .l => .set2L
  | .b2, .indHl => .set2IndHl
  | .b2, .reg .a => .set2A
  | .b3, .reg .b => .set3B
  | .b3, .reg .c => .set3C
  | .b3, .reg .d => .set3D
  | .b3, .reg .e => .set3E
  | .b3, .reg .h => .set3H
  | .b3, .reg .l => .set3L
  | .b3, .indHl => .set3IndHl
  | .b3, .reg .a => .set3A
  | .b4, .reg .b => .set4B
  | .b4, .reg .c => .set4C
  | .b4, .reg .d => .set4D
  | .b4, .reg .e => .set4E
  | .b4, .reg .h => .set4H
  | .b4, .reg .l => .set4L
  | .b4, .indHl => .set4IndHl
  | .b4, .reg .a => .set4A
  | .b5, .reg .b => .set5B
  | .b5, .reg .c => .set5C
  | .b5, .reg .d => .set5D
  | .b5, .reg .e => .set5E
  | .b5, .reg .h => .set5H
  | .b5, .reg .l => .set5L
  | .b5, .indHl => .set5IndHl
  | .b5, .reg .a => .set5A
  | .b6, .reg .b => .set6B
  | .b6, .reg .c => .set6C
  | .b6, .reg .d => .set6D
  | .b6, .reg .e => .set6E
  | .b6, .reg .h => .set6H
  | .b6, .reg .l => .set6L
  | .b6, .indHl => .set6IndHl
  | .b6, .reg .a => .set6A
  | .b7, .reg .b => .set7B
  | .b7, .reg .c => .set7C
  | .b7, .reg .d => .set7D
  | .b7, .reg .e => .set7E
  | .b7, .reg .h => .set7H
  | .b7, .reg .l => .set7L
  | .b7, .indHl => .set7IndHl
  | .b7, .reg .a => .set7A

/-- `JP cc,a16` (R332). -/
def Instr.jpCond : Cond → Word → Instr
  | .nz, a => .jpNzA16 a
  | .z, a => .jpZA16 a
  | .nc, a => .jpNcA16 a
  | .c, a => .jpCA16 a

/-- `JR cc,e8` (R335). -/
def Instr.jrCond : Cond → Byte → Instr
  | .nz, e => .jrNzE8 e
  | .z, e => .jrZE8 e
  | .nc, e => .jrNcE8 e
  | .c, e => .jrCE8 e

/-- `CALL cc,a16` (R337). -/
def Instr.callCond : Cond → Word → Instr
  | .nz, a => .callNzA16 a
  | .z, a => .callZA16 a
  | .nc, a => .callNcA16 a
  | .c, a => .callCA16 a

/-- `RET cc` (R339). -/
def Instr.retCond : Cond → Instr
  | .nz => .retNz
  | .z => .retZ
  | .nc => .retNc
  | .c => .retC

/-- `RST t` (R341). -/
def Instr.rst : RstTarget → Instr
  | .t00 => .rst00
  | .t08 => .rst08
  | .t10 => .rst10
  | .t18 => .rst18
  | .t20 => .rst20
  | .t28 => .rst28
  | .t30 => .rst30
  | .t38 => .rst38

/-! ### The descriptor tables' shape (R133 to R138) -/

/-- What the decoder still has to read for a populated plain entry: nothing, an ignored byte (STOP), one immediate byte,
or a little-endian immediate word (R130, R145, R146). -/
inductive Entry where
  | op (i : Instr)
  | ignoredByte (i : Instr)
  | imm8 (f : Byte → Instr)
  | imm16 (f : Word → Instr)

/-- The reserved extension marker (R131). -/
def extensionMarker : Byte := 0xCB

/-- The field `v[hi:lo]` of R11, as the number the code tables are indexed by. -/
def bitField (v : Byte) (lo len : Nat) : Nat := (v.extractLsb' lo len).toNat

/-- R147 with x = 0. -/
def plainX0 (y z : Nat) : Entry :=
  let p := y / 2
  match z with
  | 0 =>
    match y with
    | 0 => .op .nop
    | 1 => .imm16 .ldIndA16Sp
    | 2 => .ignoredByte .stop
    | 3 => .imm8 .jrE8
    | _ => .imm8 (Instr.jrCond (Cond.ofCode (y - 4)))
  | 1 => if y % 2 = 0 then .imm16 (Instr.ldPairN16 (Reg16.ofCode p)) else .op (Instr.addHl (Reg16.ofCode p))
  | 2 =>
    match y with
    | 0 => .op .ldIndBcA
    | 1 => .op .ldAIndBc
    | 2 => .op .ldIndDeA
    | 3 => .op .ldAIndDe
    | 4 => .op .ldIndHlIncA
    | 5 => .op .ldAIndHlInc
    | 6 => .op .ldIndHlDecA
    | _ => .op .ldAIndHlDec
  | 3 => if y % 2 = 0 then .op (Instr.inc16 (Reg16.ofCode p)) else .op (Instr.dec16 (Reg16.ofCode p))
  | 4 => .op (Instr.inc8 (Operand8.ofCode y))
  | 5 => .op (Instr.dec8 (Operand8.ofCode y))
  | 6 =>
    match Operand8.ofCode y with
    | .reg r => .imm8 (Instr.ldRegN8 r)
    | .indHl => .imm8 .ldIndHlN8
  | _ =>
    match y with
    | 0 => .op .rlca
    | 1 => .op .rrca
    | 2 => .op .rla
    | 3 => .op .rra
    | 4 => .op .daa
    | 5 => .op .cpl
    | 6 => .op .scf
    | _ => .op .ccf

/-- R147 with x = 1: `LD r(y),r(z)`, and HALT in the `LD (HL),(HL)` slot. -/
def plainX1 (y z : Nat) : Entry :=
  match Operand8.ofCode y, Operand8.ofCode z with
  | .reg dst, .reg src => .op (Instr.ldRegReg dst src)
  | .reg dst, .indHl => .op (Instr.ldRegIndHl dst)
  | .indHl, .reg src => .op (Instr.ldIndHlReg src)
  | .indHl, .indHl => .op .halt

/-- R147 with x = 2: `ALU o(y) A,r(z)`. -/
def plainX2 (y z : Nat) : Entry :=
  match Operand8.ofCode z with
  | .reg r => .op (Instr.alu (AluOp.ofCode y) (.reg r))
  | .indHl => .op (Instr.alu (AluOp.ofCode y) .indHl)

/-- R147 with x = 3; `none` is an illegal byte of R138, or the marker (R137). -/
def plainX3 (y z : Nat) : Option Entry :=
  let p := y / 2
  match z with
  | 0 =>
    match y with
    | 4 => some (.imm8 .ldhIndA8A)
    | 5 => some (.imm8 .addSpE8)
    | 6 => some (.imm8 .ldhAIndA8)
    | 7 => some (.imm8 .ldHlSpE8)
    | _ => some (.op (Instr.retCond (Cond.ofCode y)))
  | 1 =>
    match y with
    | 1 => some (.op .ret)
    | 3 => some (.op .reti)
    | 5 => some (.op .jpHl)
    | 7 => some (.op .ldSpHl)
    | _ => some (.op (Instr.pop (StackPair.ofCode p)))
  | 2 =>
    match y with
    | 4 => some (.op .ldIndCA)
    | 5 => some (.imm16 .ldIndA16A)
    | 6 => some (.op .ldAIndC)
    | 7 => some (.imm16 .ldAIndA16)
    | _ => some (.imm16 (Instr.jpCond (Cond.ofCode y)))
  | 3 =>
    match y with
    | 0 => some (.imm16 .jpA16)
    | 6 => some (.op .di)
    | 7 => some (.op .ei)
    | _ => none
  | 4 => if y < 4 then some (.imm16 (Instr.callCond (Cond.ofCode y))) else none
  | 5 =>
    match y with
    | 1 => some (.imm16 .callA16)
    | 3 => none
    | 5 => none
    | 7 => none
    | _ => some (.op (Instr.push (StackPair.ofCode p)))
  | 6 => some (.imm8 (fun n => Instr.alu (AluOp.ofCode y) (.imm n)))
  | _ => some (.op (Instr.rst (RstTarget.ofCode y)))

/-- `PLAIN[b]` of the reference table (R134, R136, R147); `none` is a lookup miss. -/
def plainEntry (b : Byte) : Option Entry :=
  let y := bitField b 3 3
  let z := bitField b 0 3
  match bitField b 6 2 with
  | 0 => some (plainX0 y z)
  | 1 => some (plainX1 y z)
  | 2 => some (plainX2 y z)
  | _ => plainX3 y z

/-- `EXT[b]` (R148); every extended byte is populated (R138). -/
def extendedInstr (b : Byte) : Instr :=
  let y := bitField b 3 3
  let z := Operand8.ofCode (bitField b 0 3)
  match bitField b 6 2 with
  | 0 => Instr.shift (ShiftOp.ofCode y) z
  | 1 => Instr.bit (BitIndex.ofCode y) z
  | 2 => Instr.res (BitIndex.ofCode y) z
  | _ => Instr.set (BitIndex.ofCode y) z

/-! ### The decoder -/

/-- Why a byte string is no instruction: it ends too early, or its tag has no descriptor (R138). -/
inductive DecodeError where
  | truncated
  | lookupMiss (op : Opcode)
  deriving DecidableEq, Repr

/-- Reads the rest of a populated plain entry (R144, R145). -/
def Entry.complete (e : Entry) (rest : List Byte) : Except DecodeError (Instr × List Byte) :=
  match e, rest with
  | .op i, rest => .ok (i, rest)
  | .ignoredByte i, rest => .ok (i, rest.drop 1)
  | .imm8 f, n :: rest => .ok (f n, rest)
  | .imm16 f, lo :: hi :: rest => .ok (f (Word.ofBytes hi lo), rest)
  | .imm8 _, [] => .error .truncated
  | .imm16 _, _ => .error .truncated

/-- Decodes the instruction at the head of a byte string under the reference tables, with the rest of the string
(R130, R131, R134, R136). STOP's second byte is skipped where there is one and never required. -/
def decode (bytes : List Byte) : Except DecodeError (Instr × List Byte) :=
  match bytes with
  | [] => .error .truncated
  | b0 :: rest =>
    if b0 = extensionMarker then
      match rest with
      | [] => .error .truncated
      | b1 :: rest => .ok (extendedInstr b1, rest)
    else
      match plainEntry b0 with
      | none => .error (.lookupMiss (.plain b0))
      | some e => e.complete rest

/-! ### The encoder -/

/-- The bytes of an instruction in fetch order: its opcode byte, or the marker and the second byte, then its immediate,
low byte first (R130, R144, section 8 of 30_encoding.md, R148). STOP's second byte is the conventional 0x00 (R362). -/
def encode : Instr → List Byte
  | .nop => [0x00]
  | .ldBcN16 n => [0x01, Word.lo n, Word.hi n]
  | .ldIndBcA => [0x02]
  | .incBc => [0x03]
  | .incB => [0x04]
  | .decB => [0x05]
  | .ldBN8 n => [0x06, n]
  | .rlca => [0x07]
  | .ldIndA16Sp n => [0x08, Word.lo n, Word.hi n]
  | .addHlBc => [0x09]
  | .ldAIndBc => [0x0A]
  | .decBc => [0x0B]
  | .incC => [0x0C]
  | .decC => [0x0D]
  | .ldCN8 n => [0x0E, n]
  | .rrca => [0x0F]
  | .stop => [0x10, 0x00]
  | .ldDeN16 n => [0x11, Word.lo n, Word.hi n]
  | .ldIndDeA => [0x12]
  | .incDe => [0x13]
  | .incD => [0x14]
  | .decD => [0x15]
  | .ldDN8 n => [0x16, n]
  | .rla => [0x17]
  | .jrE8 n => [0x18, n]
  | .addHlDe => [0x19]
  | .ldAIndDe => [0x1A]
  | .decDe => [0x1B]
  | .incE => [0x1C]
  | .decE => [0x1D]
  | .ldEN8 n => [0x1E, n]
  | .rra => [0x1F]
  | .jrNzE8 n => [0x20, n]
  | .ldHlN16 n => [0x21, Word.lo n, Word.hi n]
  | .ldIndHlIncA => [0x22]
  | .incHl => [0x23]
  | .incH => [0x24]
  | .decH => [0x25]
  | .ldHN8 n => [0x26, n]
  | .daa => [0x27]
  | .jrZE8 n => [0x28, n]
  | .addHlHl => [0x29]
  | .ldAIndHlInc => [0x2A]
  | .decHl => [0x2B]
  | .incL => [0x2C]
  | .decL => [0x2D]
  | .ldLN8 n => [0x2E, n]
  | .cpl => [0x2F]
  | .jrNcE8 n => [0x30, n]
  | .ldSpN16 n => [0x31, Word.lo n, Word.hi n]
  | .ldIndHlDecA => [0x32]
  | .incSp => [0x33]
  | .incIndHl => [0x34]
  | .decIndHl => [0x35]
  | .ldIndHlN8 n => [0x36, n]
  | .scf => [0x37]
  | .jrCE8 n => [0x38, n]
  | .addHlSp => [0x39]
  | .ldAIndHlDec => [0x3A]
  | .decSp => [0x3B]
  | .incA => [0x3C]
  | .decA => [0x3D]
  | .ldAN8 n => [0x3E, n]
  | .ccf => [0x3F]
  | .ldBB => [0x40]
  | .ldBC => [0x41]
  | .ldBD => [0x42]
  | .ldBE => [0x43]
  | .ldBH => [0x44]
  | .ldBL => [0x45]
  | .ldBIndHl => [0x46]
  | .ldBA => [0x47]
  | .ldCB => [0x48]
  | .ldCC => [0x49]
  | .ldCD => [0x4A]
  | .ldCE => [0x4B]
  | .ldCH => [0x4C]
  | .ldCL => [0x4D]
  | .ldCIndHl => [0x4E]
  | .ldCA => [0x4F]
  | .ldDB => [0x50]
  | .ldDC => [0x51]
  | .ldDD => [0x52]
  | .ldDE => [0x53]
  | .ldDH => [0x54]
  | .ldDL => [0x55]
  | .ldDIndHl => [0x56]
  | .ldDA => [0x57]
  | .ldEB => [0x58]
  | .ldEC => [0x59]
  | .ldED => [0x5A]
  | .ldEE => [0x5B]
  | .ldEH => [0x5C]
  | .ldEL => [0x5D]
  | .ldEIndHl => [0x5E]
  | .ldEA => [0x5F]
  | .ldHB => [0x60]
  | .ldHC => [0x61]
  | .ldHD => [0x62]
  | .ldHE => [0x63]
  | .ldHH => [0x64]
  | .ldHL => [0x65]
  | .ldHIndHl => [0x66]
  | .ldHA => [0x67]
  | .ldLB => [0x68]
  | .ldLC => [0x69]
  | .ldLD => [0x6A]
  | .ldLE => [0x6B]
  | .ldLH => [0x6C]
  | .ldLL => [0x6D]
  | .ldLIndHl => [0x6E]
  | .ldLA => [0x6F]
  | .ldIndHlB => [0x70]
  | .ldIndHlC => [0x71]
  | .ldIndHlD => [0x72]
  | .ldIndHlE => [0x73]
  | .ldIndHlH => [0x74]
  | .ldIndHlL => [0x75]
  | .halt => [0x76]
  | .ldIndHlA => [0x77]
  | .ldAB => [0x78]
  | .ldAC => [0x79]
  | .ldAD => [0x7A]
  | .ldAE => [0x7B]
  | .ldAH => [0x7C]
  | .ldAL => [0x7D]
  | .ldAIndHl => [0x7E]
  | .ldAA => [0x7F]
  | .addAB => [0x80]
  | .addAC => [0x81]
  | .addAD => [0x82]
  | .addAE => [0x83]
  | .addAH => [0x84]
  | .addAL => [0x85]
  | .addAIndHl => [0x86]
  | .addAA => [0x87]
  | .adcAB => [0x88]
  | .adcAC => [0x89]
  | .adcAD => [0x8A]
  | .adcAE => [0x8B]
  | .adcAH => [0x8C]
  | .adcAL => [0x8D]
  | .adcAIndHl => [0x8E]
  | .adcAA => [0x8F]
  | .subAB => [0x90]
  | .subAC => [0x91]
  | .subAD => [0x92]
  | .subAE => [0x93]
  | .subAH => [0x94]
  | .subAL => [0x95]
  | .subAIndHl => [0x96]
  | .subAA => [0x97]
  | .sbcAB => [0x98]
  | .sbcAC => [0x99]
  | .sbcAD => [0x9A]
  | .sbcAE => [0x9B]
  | .sbcAH => [0x9C]
  | .sbcAL => [0x9D]
  | .sbcAIndHl => [0x9E]
  | .sbcAA => [0x9F]
  | .andAB => [0xA0]
  | .andAC => [0xA1]
  | .andAD => [0xA2]
  | .andAE => [0xA3]
  | .andAH => [0xA4]
  | .andAL => [0xA5]
  | .andAIndHl => [0xA6]
  | .andAA => [0xA7]
  | .xorAB => [0xA8]
  | .xorAC => [0xA9]
  | .xorAD => [0xAA]
  | .xorAE => [0xAB]
  | .xorAH => [0xAC]
  | .xorAL => [0xAD]
  | .xorAIndHl => [0xAE]
  | .xorAA => [0xAF]
  | .orAB => [0xB0]
  | .orAC => [0xB1]
  | .orAD => [0xB2]
  | .orAE => [0xB3]
  | .orAH => [0xB4]
  | .orAL => [0xB5]
  | .orAIndHl => [0xB6]
  | .orAA => [0xB7]
  | .cpAB => [0xB8]
  | .cpAC => [0xB9]
  | .cpAD => [0xBA]
  | .cpAE => [0xBB]
  | .cpAH => [0xBC]
  | .cpAL => [0xBD]
  | .cpAIndHl => [0xBE]
  | .cpAA => [0xBF]
  | .retNz => [0xC0]
  | .popBc => [0xC1]
  | .jpNzA16 n => [0xC2, Word.lo n, Word.hi n]
  | .jpA16 n => [0xC3, Word.lo n, Word.hi n]
  | .callNzA16 n => [0xC4, Word.lo n, Word.hi n]
  | .pushBc => [0xC5]
  | .addAN8 n => [0xC6, n]
  | .rst00 => [0xC7]
  | .retZ => [0xC8]
  | .ret => [0xC9]
  | .jpZA16 n => [0xCA, Word.lo n, Word.hi n]
  | .callZA16 n => [0xCC, Word.lo n, Word.hi n]
  | .callA16 n => [0xCD, Word.lo n, Word.hi n]
  | .adcAN8 n => [0xCE, n]
  | .rst08 => [0xCF]
  | .retNc => [0xD0]
  | .popDe => [0xD1]
  | .jpNcA16 n => [0xD2, Word.lo n, Word.hi n]
  | .callNcA16 n => [0xD4, Word.lo n, Word.hi n]
  | .pushDe => [0xD5]
  | .subAN8 n => [0xD6, n]
  | .rst10 => [0xD7]
  | .retC => [0xD8]
  | .reti => [0xD9]
  | .jpCA16 n => [0xDA, Word.lo n, Word.hi n]
  | .callCA16 n => [0xDC, Word.lo n, Word.hi n]
  | .sbcAN8 n => [0xDE, n]
  | .rst18 => [0xDF]
  | .ldhIndA8A n => [0xE0, n]
  | .popHl => [0xE1]
  | .ldIndCA => [0xE2]
  | .pushHl => [0xE5]
  | .andAN8 n => [0xE6, n]
  | .rst20 => [0xE7]
  | .addSpE8 n => [0xE8, n]
  | .jpHl => [0xE9]
  | .ldIndA16A n => [0xEA, Word.lo n, Word.hi n]
  | .xorAN8 n => [0xEE, n]
  | .rst28 => [0xEF]
  | .ldhAIndA8 n => [0xF0, n]
  | .popAf => [0xF1]
  | .ldAIndC => [0xF2]
  | .di => [0xF3]
  | .pushAf => [0xF5]
  | .orAN8 n => [0xF6, n]
  | .rst30 => [0xF7]
  | .ldHlSpE8 n => [0xF8, n]
  | .ldSpHl => [0xF9]
  | .ldAIndA16 n => [0xFA, Word.lo n, Word.hi n]
  | .ei => [0xFB]
  | .cpAN8 n => [0xFE, n]
  | .rst38 => [0xFF]
  | .rlcB => [0xCB, 0x00]
  | .rlcC => [0xCB, 0x01]
  | .rlcD => [0xCB, 0x02]
  | .rlcE => [0xCB, 0x03]
  | .rlcH => [0xCB, 0x04]
  | .rlcL => [0xCB, 0x05]
  | .rlcIndHl => [0xCB, 0x06]
  | .rlcA => [0xCB, 0x07]
  | .rrcB => [0xCB, 0x08]
  | .rrcC => [0xCB, 0x09]
  | .rrcD => [0xCB, 0x0A]
  | .rrcE => [0xCB, 0x0B]
  | .rrcH => [0xCB, 0x0C]
  | .rrcL => [0xCB, 0x0D]
  | .rrcIndHl => [0xCB, 0x0E]
  | .rrcA => [0xCB, 0x0F]
  | .rlB => [0xCB, 0x10]
  | .rlC => [0xCB, 0x11]
  | .rlD => [0xCB, 0x12]
  | .rlE => [0xCB, 0x13]
  | .rlH => [0xCB, 0x14]
  | .rlL => [0xCB, 0x15]
  | .rlIndHl => [0xCB, 0x16]
  | .rlA => [0xCB, 0x17]
  | .rrB => [0xCB, 0x18]
  | .rrC => [0xCB, 0x19]
  | .rrD => [0xCB, 0x1A]
  | .rrE => [0xCB, 0x1B]
  | .rrH => [0xCB, 0x1C]
  | .rrL => [0xCB, 0x1D]
  | .rrIndHl => [0xCB, 0x1E]
  | .rrA => [0xCB, 0x1F]
  | .slaB => [0xCB, 0x20]
  | .slaC => [0xCB, 0x21]
  | .slaD => [0xCB, 0x22]
  | .slaE => [0xCB, 0x23]
  | .slaH => [0xCB, 0x24]
  | .slaL => [0xCB, 0x25]
  | .slaIndHl => [0xCB, 0x26]
  | .slaA => [0xCB, 0x27]
  | .sraB => [0xCB, 0x28]
  | .sraC => [0xCB, 0x29]
  | .sraD => [0xCB, 0x2A]
  | .sraE => [0xCB, 0x2B]
  | .sraH => [0xCB, 0x2C]
  | .sraL => [0xCB, 0x2D]
  | .sraIndHl => [0xCB, 0x2E]
  | .sraA => [0xCB, 0x2F]
  | .swapB => [0xCB, 0x30]
  | .swapC => [0xCB, 0x31]
  | .swapD => [0xCB, 0x32]
  | .swapE => [0xCB, 0x33]
  | .swapH => [0xCB, 0x34]
  | .swapL => [0xCB, 0x35]
  | .swapIndHl => [0xCB, 0x36]
  | .swapA => [0xCB, 0x37]
  | .srlB => [0xCB, 0x38]
  | .srlC => [0xCB, 0x39]
  | .srlD => [0xCB, 0x3A]
  | .srlE => [0xCB, 0x3B]
  | .srlH => [0xCB, 0x3C]
  | .srlL => [0xCB, 0x3D]
  | .srlIndHl => [0xCB, 0x3E]
  | .srlA => [0xCB, 0x3F]
  | .bit0B => [0xCB, 0x40]
  | .bit0C => [0xCB, 0x41]
  | .bit0D => [0xCB, 0x42]
  | .bit0E => [0xCB, 0x43]
  | .bit0H => [0xCB, 0x44]
  | .bit0L => [0xCB, 0x45]
  | .bit0IndHl => [0xCB, 0x46]
  | .bit0A => [0xCB, 0x47]
  | .bit1B => [0xCB, 0x48]
  | .bit1C => [0xCB, 0x49]
  | .bit1D => [0xCB, 0x4A]
  | .bit1E => [0xCB, 0x4B]
  | .bit1H => [0xCB, 0x4C]
  | .bit1L => [0xCB, 0x4D]
  | .bit1IndHl => [0xCB, 0x4E]
  | .bit1A => [0xCB, 0x4F]
  | .bit2B => [0xCB, 0x50]
  | .bit2C => [0xCB, 0x51]
  | .bit2D => [0xCB, 0x52]
  | .bit2E => [0xCB, 0x53]
  | .bit2H => [0xCB, 0x54]
  | .bit2L => [0xCB, 0x55]
  | .bit2IndHl => [0xCB, 0x56]
  | .bit2A => [0xCB, 0x57]
  | .bit3B => [0xCB, 0x58]
  | .bit3C => [0xCB, 0x59]
  | .bit3D => [0xCB, 0x5A]
  | .bit3E => [0xCB, 0x5B]
  | .bit3H => [0xCB, 0x5C]
  | .bit3L => [0xCB, 0x5D]
  | .bit3IndHl => [0xCB, 0x5E]
  | .bit3A => [0xCB, 0x5F]
  | .bit4B => [0xCB, 0x60]
  | .bit4C => [0xCB, 0x61]
  | .bit4D => [0xCB, 0x62]
  | .bit4E => [0xCB, 0x63]
  | .bit4H => [0xCB, 0x64]
  | .bit4L => [0xCB, 0x65]
  | .bit4IndHl => [0xCB, 0x66]
  | .bit4A => [0xCB, 0x67]
  | .bit5B => [0xCB, 0x68]
  | .bit5C => [0xCB, 0x69]
  | .bit5D => [0xCB, 0x6A]
  | .bit5E => [0xCB, 0x6B]
  | .bit5H => [0xCB, 0x6C]
  | .bit5L => [0xCB, 0x6D]
  | .bit5IndHl => [0xCB, 0x6E]
  | .bit5A => [0xCB, 0x6F]
  | .bit6B => [0xCB, 0x70]
  | .bit6C => [0xCB, 0x71]
  | .bit6D => [0xCB, 0x72]
  | .bit6E => [0xCB, 0x73]
  | .bit6H => [0xCB, 0x74]
  | .bit6L => [0xCB, 0x75]
  | .bit6IndHl => [0xCB, 0x76]
  | .bit6A => [0xCB, 0x77]
  | .bit7B => [0xCB, 0x78]
  | .bit7C => [0xCB, 0x79]
  | .bit7D => [0xCB, 0x7A]
  | .bit7E => [0xCB, 0x7B]
  | .bit7H => [0xCB, 0x7C]
  | .bit7L => [0xCB, 0x7D]
  | .bit7IndHl => [0xCB, 0x7E]
  | .bit7A => [0xCB, 0x7F]
  | .res0B => [0xCB, 0x80]
  | .res0C => [0xCB, 0x81]
  | .res0D => [0xCB, 0x82]
  | .res0E => [0xCB, 0x83]
  | .res0H => [0xCB, 0x84]
  | .res0L => [0xCB, 0x85]
  | .res0IndHl => [0xCB, 0x86]
  | .res0A => [0xCB, 0x87]
  | .res1B => [0xCB, 0x88]
  | .res1C => [0xCB, 0x89]
  | .res1D => [0xCB, 0x8A]
  | .res1E => [0xCB, 0x8B]
  | .res1H => [0xCB, 0x8C]
  | .res1L => [0xCB, 0x8D]
  | .res1IndHl => [0xCB, 0x8E]
  | .res1A => [0xCB, 0x8F]
  | .res2B => [0xCB, 0x90]
  | .res2C => [0xCB, 0x91]
  | .res2D => [0xCB, 0x92]
  | .res2E => [0xCB, 0x93]
  | .res2H => [0xCB, 0x94]
  | .res2L => [0xCB, 0x95]
  | .res2IndHl => [0xCB, 0x96]
  | .res2A => [0xCB, 0x97]
  | .res3B => [0xCB, 0x98]
  | .res3C => [0xCB, 0x99]
  | .res3D => [0xCB, 0x9A]
  | .res3E => [0xCB, 0x9B]
  | .res3H => [0xCB, 0x9C]
  | .res3L => [0xCB, 0x9D]
  | .res3IndHl => [0xCB, 0x9E]
  | .res3A => [0xCB, 0x9F]
  | .res4B => [0xCB, 0xA0]
  | .res4C => [0xCB, 0xA1]
  | .res4D => [0xCB, 0xA2]
  | .res4E => [0xCB, 0xA3]
  | .res4H => [0xCB, 0xA4]
  | .res4L => [0xCB, 0xA5]
  | .res4IndHl => [0xCB, 0xA6]
  | .res4A => [0xCB, 0xA7]
  | .res5B => [0xCB, 0xA8]
  | .res5C => [0xCB, 0xA9]
  | .res5D => [0xCB, 0xAA]
  | .res5E => [0xCB, 0xAB]
  | .res5H => [0xCB, 0xAC]
  | .res5L => [0xCB, 0xAD]
  | .res5IndHl => [0xCB, 0xAE]
  | .res5A => [0xCB, 0xAF]
  | .res6B => [0xCB, 0xB0]
  | .res6C => [0xCB, 0xB1]
  | .res6D => [0xCB, 0xB2]
  | .res6E => [0xCB, 0xB3]
  | .res6H => [0xCB, 0xB4]
  | .res6L => [0xCB, 0xB5]
  | .res6IndHl => [0xCB, 0xB6]
  | .res6A => [0xCB, 0xB7]
  | .res7B => [0xCB, 0xB8]
  | .res7C => [0xCB, 0xB9]
  | .res7D => [0xCB, 0xBA]
  | .res7E => [0xCB, 0xBB]
  | .res7H => [0xCB, 0xBC]
  | .res7L => [0xCB, 0xBD]
  | .res7IndHl => [0xCB, 0xBE]
  | .res7A => [0xCB, 0xBF]
  | .set0B => [0xCB, 0xC0]
  | .set0C => [0xCB, 0xC1]
  | .set0D => [0xCB, 0xC2]
  | .set0E => [0xCB, 0xC3]
  | .set0H => [0xCB, 0xC4]
  | .set0L => [0xCB, 0xC5]
  | .set0IndHl => [0xCB, 0xC6]
  | .set0A => [0xCB, 0xC7]
  | .set1B => [0xCB, 0xC8]
  | .set1C => [0xCB, 0xC9]
  | .set1D => [0xCB, 0xCA]
  | .set1E => [0xCB, 0xCB]
  | .set1H => [0xCB, 0xCC]
  | .set1L => [0xCB, 0xCD]
  | .set1IndHl => [0xCB, 0xCE]
  | .set1A => [0xCB, 0xCF]
  | .set2B => [0xCB, 0xD0]
  | .set2C => [0xCB, 0xD1]
  | .set2D => [0xCB, 0xD2]
  | .set2E => [0xCB, 0xD3]
  | .set2H => [0xCB, 0xD4]
  | .set2L => [0xCB, 0xD5]
  | .set2IndHl => [0xCB, 0xD6]
  | .set2A => [0xCB, 0xD7]
  | .set3B => [0xCB, 0xD8]
  | .set3C => [0xCB, 0xD9]
  | .set3D => [0xCB, 0xDA]
  | .set3E => [0xCB, 0xDB]
  | .set3H => [0xCB, 0xDC]
  | .set3L => [0xCB, 0xDD]
  | .set3IndHl => [0xCB, 0xDE]
  | .set3A => [0xCB, 0xDF]
  | .set4B => [0xCB, 0xE0]
  | .set4C => [0xCB, 0xE1]
  | .set4D => [0xCB, 0xE2]
  | .set4E => [0xCB, 0xE3]
  | .set4H => [0xCB, 0xE4]
  | .set4L => [0xCB, 0xE5]
  | .set4IndHl => [0xCB, 0xE6]
  | .set4A => [0xCB, 0xE7]
  | .set5B => [0xCB, 0xE8]
  | .set5C => [0xCB, 0xE9]
  | .set5D => [0xCB, 0xEA]
  | .set5E => [0xCB, 0xEB]
  | .set5H => [0xCB, 0xEC]
  | .set5L => [0xCB, 0xED]
  | .set5IndHl => [0xCB, 0xEE]
  | .set5A => [0xCB, 0xEF]
  | .set6B => [0xCB, 0xF0]
  | .set6C => [0xCB, 0xF1]
  | .set6D => [0xCB, 0xF2]
  | .set6E => [0xCB, 0xF3]
  | .set6H => [0xCB, 0xF4]
  | .set6L => [0xCB, 0xF5]
  | .set6IndHl => [0xCB, 0xF6]
  | .set6A => [0xCB, 0xF7]
  | .set7B => [0xCB, 0xF8]
  | .set7C => [0xCB, 0xF9]
  | .set7D => [0xCB, 0xFA]
  | .set7E => [0xCB, 0xFB]
  | .set7H => [0xCB, 0xFC]
  | .set7L => [0xCB, 0xFD]
  | .set7IndHl => [0xCB, 0xFE]
  | .set7A => [0xCB, 0xFF]

/-- The tag an instruction is looked up by (R131, R134). -/
def Instr.opcode (i : Instr) : Opcode :=
  match encode i with
  | b0 :: b1 :: _ => if b0 = extensionMarker then .extended b1 else .plain b0
  | b0 :: [] => .plain b0
  | [] => .plain extensionMarker

/-- How many bytes a step reads to decode the instruction: its length, but for STOP, whose second byte is read by
nothing (R130, R145). -/
def Instr.bytesRead (i : Instr) : Nat :=
  match i with
  | .stop => 1
  | i => (encode i).length

/-! ### One word of the opcode table -/

/-- The bytes, in fetch order, of an instruction whose table bits are `w`. A 16-bit row of spec/opcode_table.json has the
marker 0xCB in bits 15 to 8 and the second byte in bits 7 to 0 (the head of 30_encoding.md), so such a word is laid out
marker first; any other word is laid out from bit 0 up (log 9). Every bit above `nbits` is 0. -/
def tableBytes (nbits w : Nat) : List Byte :=
  let v := w % 2 ^ nbits
  if nbits = 16 ∧ v / 256 = 0xCB then
    [extensionMarker, BitVec.ofNat 8 v, 0]
  else
    [BitVec.ofNat 8 v, BitVec.ofNat 8 (v / 256), BitVec.ofNat 8 (v / 65536)]

/-- What the decoder reads from one word of the opcode table. -/
def decodeTableWord (nbits w : Nat) : Option Instr :=
  match decode (tableBytes nbits w) with
  | .ok (i, _) => some i
  | .error _ => none

end Sys2Proof
end

