-- ==== Sys2Proof/Config.lean ====
section
/-! DEFINITION. The parameters of R9 as plain data, their reference values, and the free values.

The launch fixes the parameters for the session; the machine holds them in `State.config` and no step writes them.
`CART` and `BIOS` are fields of State, `INIT_PROFILE` is an argument of `State.atLaunch`, `GPU_LY` is always a draw, and
`WORD_WRITE_ORDER` has the single value high_first (C1, D5), which `memWrite16` follows. -/

namespace Sys2Proof

/-- `INTERRUPT_MODEL` (R410, D10). -/
inductive InterruptModel where
  | none
  | sm83
  deriving DecidableEq, Repr

/-- `MAP_VARIANT` (R91, R92, D4). -/
inductive MapVariant where
  | asDocumented
  | contiguous
  deriving DecidableEq, Repr

/-- `ECHO_MODE` (R76, D6); `aliased` is the spec's `alias`. -/
inductive EchoMode where
  | separate
  | aliased
  deriving DecidableEq, Repr

/-- `HALT_MODEL` (R361, R362, D12). -/
inductive HaltModel where
  | stop
  | nop
  deriving DecidableEq, Repr

/-- `CYCLE_UNIT` (R152, D8). -/
inductive CycleUnit where
  | m
  | t
  deriving DecidableEq, Repr

/-- `GPU_LCDC_READBACK` (R63, D7). -/
inductive LcdcReadback where
  | stored
  | draw
  deriving DecidableEq, Repr

/-- `TAP_ADDR` (R82, D3): the address of each named tap. -/
structure TapAddr where
  keypad : Word
  lcdc : Word
  scy : Word
  scx : Word
  ly : Word
  dma : Word
  bgp : Word
  boot : Word
  deriving DecidableEq, Repr

/-- The parameters of R9 that a step consults. `POPULATED_PLAIN` and `POPULATED_EXT` (R136, D2) are given by what they
leave out of the reference table: the bytes of `removedPlain` and `removedExt` have no descriptor. -/
structure Config where
  removedPlain : List Byte
  removedExt : List Byte
  interruptModel : InterruptModel
  mapVariant : MapVariant
  echoMode : EchoMode
  haltModel : HaltModel
  cycleUnit : CycleUnit
  lcdcReadback : LcdcReadback
  taps : TapAddr
  deriving DecidableEq, Repr

/-- The reference tap addresses of R82. -/
def TapAddr.reference : TapAddr where
  keypad := 0xFF00
  lcdc := 0xFF40
  scy := 0xFF42
  scx := 0xFF43
  ly := 0xFF44
  dma := 0xFF46
  bgp := 0xFF47
  boot := 0xFF50

/-- The reference configuration of R9. -/
def Config.reference : Config where
  removedPlain := []
  removedExt := []
  interruptModel := .none
  mapVariant := .asDocumented
  echoMode := .separate
  haltModel := .stop
  cycleUnit := .m
  lcdcReadback := .stored
  taps := .reference

/-- FREE VALUE (log 6): the byte the GPU's `current_scanline` shows at the n-th draw of the run (R63, D7, `GPU_LY`). -/
opaque Config.freeScanline : Nat → Byte

/-- FREE VALUE (log 7): the byte a read of TAP_LCDC returns at the n-th draw when `GPU_LCDC_READBACK = draw` (R9, D7). -/
opaque Config.freeLcdc : Nat → Byte

end Sys2Proof
end

