-- ==== Sys2Proof/Machine/State.lean ====
section
/-! DEFINITION. Everything the spec gives the machine, as plain data, and its value at construction.

`mem` holds every byte store of R47 and the GPU's vram and oam (R63) under the address the routing table gives each cell
(R70, R71); `cart` and `bios` hold the two read-only stores (R60, R61). `config` holds the parameters of R9 and `draws`
counts the model's free values; no rule of the spec names `draws`. -/

namespace Sys2Proof.Machine

/-- A byte store: (address, byte) pairs, addresses strictly rising, no pair holding the byte an unlisted address reads
as (`Memory.wf`). -/
abbrev Memory := List Host.Cell

/-- The two fatal conditions (R400 to R403). Both are the spec's own, so stopping there is safe. -/
inductive Fault where
  /-- `Fatal(BiosAbsent(a))` (R72, R401): raised by a bus read at `a` in 0x0000 to 0x00FF while the boot latch is false
  and there is no BIOS: a fetch, an operand read or a DMA source read. Safe: the spec ends the session here. -/
  | biosAbsent (a : Word)
  /-- `Fatal(LookupMiss(op))` (R138, R403): raised by the step when the decoded tag has no descriptor. Safe: the spec
  ends the session here. -/
  | lookupMiss (op : Opcode)
  deriving DecidableEq, Repr

/-- What the model declines to run. -/
inductive Refusal where
  /-- Raised by an arm of `exec` whose instruction has no meaning yet. Safe: nothing follows from it. -/
  | notModelled (mnemonic : String)
  /-- `Refused(HaltBug)` (R404, D22): raised by HALT under `INTERRUPT_MODEL = sm83` with IME = 0 and an enabled interrupt
  pending. Safe: the spec itself refuses. -/
  | haltBug
  /-- R452: raised by `State.launch` on a malformed launch state, never by a step. Safe: the spec itself refuses. -/
  | malformedLaunch
  deriving DecidableEq, Repr

/-- Why a computation inside a step ends the step. -/
inductive Stop where
  | fault (f : Fault)
  | refused (r : Refusal)
  deriving DecidableEq, Repr

/-- The GPU's registers (R62, R63); its vram and oam are cells of `State.mem`, and `current_scanline` has no stored
value (`Config.freeScanline`). -/
structure Gpu where
  lcdc : Byte
  scrollX : Byte
  scrollY : Byte
  bgpal : Byte
  deriving DecidableEq, Repr

/-- The machine (INVENTORY.md, State). -/
structure State where
  /-- R30: the eight 8-bit registers; `f` holds the flags (R38). -/
  a : Byte
  f : Byte
  b : Byte
  c : Byte
  d : Byte
  e : Byte
  h : Byte
  l : Byte
  /-- R33. -/
  sp : Word
  /-- R34. -/
  pc : Word
  /-- R41. -/
  ime : Bool
  /-- R42. -/
  eiDelay : Bool
  /-- R43. -/
  halted : Bool
  /-- R43. -/
  stopped : Bool
  /-- R44. -/
  cycles : Nat
  /-- R45. -/
  bootLatch : Bool
  /-- R46: IF. -/
  ifReg : Byte
  /-- R46: IE. -/
  ieReg : Byte
  /-- R48. -/
  keypadStub : Byte
  /-- R47, R63: ext_ram, wram, echo_ram, io, hram, vram and oam, each cell under its address. -/
  mem : Memory
  /-- R62, R63. -/
  gpu : Gpu
  /-- R60: the cartridge's bytes. -/
  cart : Memory
  /-- R61: the BIOS's bytes, or no BIOS. -/
  bios : Option Memory
  /-- R9. -/
  config : Config
  /-- The model's own: how many free values the run has drawn (log 6, log 7). -/
  draws : Nat
  deriving DecidableEq, Repr

/-- The CPU registers that R55 leaves to the launch. -/
structure LaunchRegs where
  a : Byte
  f : Byte
  b : Byte
  c : Byte
  d : Byte
  e : Byte
  h : Byte
  l : Byte
  sp : Word
  pc : Word
  deriving DecidableEq, Repr

/-- `INIT_PROFILE` (R451, D14). -/
inductive InitProfile where
  | free (r : LaunchRegs)
  | biosBoot
  | postBoot
  deriving DecidableEq, Repr

/-- The register values of each profile (R451). -/
def InitProfile.regs : InitProfile → LaunchRegs
  | .free r => r
  | .biosBoot => { a := 0, f := 0, b := 0, c := 0, d := 0, e := 0, h := 0, l := 0, sp := 0, pc := 0 }
  | .postBoot =>
    { a := 0x01, f := 0xB0, b := 0x00, c := 0x13, d := 0x00, e := 0xD8, h := 0x01, l := 0x4D, sp := 0xFFFE,
      pc := 0x0100 }

/-- The session at construction (R55, R451): the parameters, the profile, the cartridge, the BIOS and the GPU's registers
and memory are the launch's; everything else has the one value the spec gives it. -/
def State.atLaunch (config : Config) (profile : InitProfile) (cart : Memory) (bios : Option Memory) (gpu : Gpu)
    (gpuMem : Memory) : State :=
  let r := profile.regs
  { a := r.a, f := r.f, b := r.b, c := r.c, d := r.d, e := r.e, h := r.h, l := r.l, sp := r.sp, pc := r.pc
    ime := false, eiDelay := false, halted := false, stopped := false, cycles := 0, bootLatch := false
    ifReg := 0, ieReg := 0, keypadStub := 0, mem := gpuMem, gpu := gpu, cart := cart, bios := bios
    config := config, draws := 0 }

/-- The session right after construction: DESIGN CHOICE (logs 1, 2, 3) among the launches the spec allows, with the
reference parameters, the `post_boot` registers, no BIOS, and cartridge and GPU bytes all 0. -/
def State.reset : State :=
  State.atLaunch .reference .postBoot [] none { lcdc := 0, scrollX := 0, scrollY := 0, bgpal := 0 } []

end Sys2Proof.Machine
end

