-- ==== Sys2Proof/Machine/Ops.lean ====
section
/-! DEFINITION. The operations every meaning is written over: byte stores, the bus (20_memory.md), word access, the stack,
outcomes and their application (R150, R160), and interrupt entry and return (R411, R412, R340). -/

namespace Sys2Proof.Machine

/-- The result of a computation inside a step: a value, or the condition that ends the step. -/
abbrev Res (α : Type) := Except Stop α

/-- The outcome of a whole step or instruction. -/
abbrev StepOutcome := Host.Outcome State Fault Refusal

/-! ### Byte stores -/

/-- What an unlisted address of a byte store reads as: 0, the value of every bus-owned store at construction (R47, R55);
for the cartridge, the BIOS and the GPU's memory it is the representation's choice (logs 2, 3). -/
def unlistedByte : Byte := 0

/-- The byte at an address. -/
def Memory.read : Memory → Nat → Byte
  | [], _ => unlistedByte
  | (k, w) :: rest, a => if k = a then w else Memory.read rest a

/-- The store with one byte written, in canonical form. -/
def Memory.write : Memory → Nat → Byte → Memory
  | [], a, v => if v = unlistedByte then [] else [(a, v)]
  | (k, w) :: rest, a, v =>
    if k < a then (k, w) :: Memory.write rest a v
    else if k = a then (if v = unlistedByte then rest else (a, v) :: rest)
    else if v = unlistedByte then (k, w) :: rest
    else (a, v) :: (k, w) :: rest

/-- Every listed address is above `lo`, the addresses rise strictly, and no listed byte is the unlisted one. -/
def Memory.wfAbove : Memory → Nat → Bool
  | [], _ => true
  | (k, w) :: rest, lo => decide (lo < k) && decide (w ≠ unlistedByte) && Memory.wfAbove rest k

/-- The canonical form: strictly rising addresses, no listed byte equal to the unlisted one. -/
def Memory.wf : Memory → Bool
  | [] => true
  | (k, w) :: rest => decide (w ≠ unlistedByte) && Memory.wfAbove rest k

/-! ### Single fields -/

def State.setF (s : State) (v : Byte) : State := { s with f := v }
def State.setSp (s : State) (v : Word) : State := { s with sp := v }
def State.setPc (s : State) (v : Word) : State := { s with pc := v }
def State.setIme (s : State) (v : Bool) : State := { s with ime := v }
def State.setEiDelay (s : State) (v : Bool) : State := { s with eiDelay := v }
def State.setHalted (s : State) (v : Bool) : State := { s with halted := v }
def State.setStopped (s : State) (v : Bool) : State := { s with stopped := v }
def State.addCycles (s : State) (n : Nat) : State := { s with cycles := s.cycles + n }
def State.setBootLatch (s : State) (v : Bool) : State := { s with bootLatch := v }
def State.setIf (s : State) (v : Byte) : State := { s with ifReg := v }
def State.setIe (s : State) (v : Byte) : State := { s with ieReg := v }
def State.setKeypadStub (s : State) (v : Byte) : State := { s with keypadStub := v }
def State.setMem (s : State) (m : Memory) : State := { s with mem := m }
def State.setGpu (s : State) (g : Gpu) : State := { s with gpu := g }
def State.nextDraw (s : State) : State := { s with draws := s.draws + 1 }

/-! ### The routing partition (R70, R71, R121) -/

/-- The rows of the routing table. -/
inductive Region where
  | overlay
  | cart
  | vram
  | extRam
  | wram
  | echo
  | oam
  | unusable
  | ifReg
  | io
  | hram
  | ieReg
  | unmapped
  deriving DecidableEq, Repr

/-- The row that owns an address, tested in the order of R70. Under `MAP_VARIANT = contiguous` the rows that end one
short of their neighbour end one later (R92). -/
def regionOf (cfg : Config) (addr : Word) : Region :=
  let a := addr.toNat
  let ext := if cfg.mapVariant = .contiguous then 1 else 0
  if a ≤ 0x00FF then .overlay
  else if a ≤ 0x7FFF then .cart
  else if a ≤ 0x9FFF then .vram
  else if a ≤ 0xBFFF then .extRam
  else if a ≤ 0xDFFF then .wram
  else if a ≤ 0xFDFE + ext then .echo
  else if 0xFE00 ≤ a ∧ a ≤ 0xFE9E + ext then .oam
  else if 0xFEA0 ≤ a ∧ a ≤ 0xFEFE + ext then .unusable
  else if a = 0xFF0F then .ifReg
  else if 0xFF00 ≤ a ∧ a ≤ 0xFF7E + ext then .io
  else if 0xFF80 ≤ a ∧ a ≤ 0xFFFD + ext then .hram
  else if a = 0xFFFF then .ieReg
  else .unmapped

/-- The key of the cell that holds an echo address: its own, or wram's under `ECHO_MODE = alias` (R76). -/
def echoKey (cfg : Config) (addr : Word) : Nat :=
  if cfg.echoMode = .aliased then addr.toNat - 0x2000 else addr.toNat

/-- What a read of an I/O address returns (R80, R89, R90). -/
inductive ReadTap where
  | keypad
  | lcdc
  | scy
  | scx
  | ly
  | raw
  deriving DecidableEq, Repr

/-- The read tap of an address, tested in the order of `IoRead` (R80). -/
def readTapOf (t : TapAddr) (a : Word) : ReadTap :=
  if a = t.keypad then .keypad
  else if a = t.lcdc then .lcdc
  else if a = t.scy then .scy
  else if a = t.scx then .scx
  else if a = t.ly then .ly
  else .raw

/-- What a write of an I/O address does beside storing the raw byte (R80, R83 to R88). -/
inductive WriteTap where
  | boot
  | keypad
  | lcdc
  | scy
  | scx
  | bgp
  | dma
  | raw
  deriving DecidableEq, Repr

/-- The write tap of an address, tested in the order of `IoWrite` (R80). -/
def writeTapOf (t : TapAddr) (a : Word) : WriteTap :=
  if a = t.boot then .boot
  else if a = t.keypad then .keypad
  else if a = t.lcdc then .lcdc
  else if a = t.scy then .scy
  else if a = t.scx then .scx
  else if a = t.bgp then .bgp
  else if a = t.dma then .dma
  else .raw

/-! ### Byte reads (R70, R72 to R81, R89 to R91) -/

/-- What `IoRead` returns; the two draws are the free values at the state's draw counter. -/
def State.ioPeek (s : State) (a : Word) : Byte :=
  match readTapOf s.config.taps a with
  | .keypad => 0xFF
  | .lcdc => match s.config.lcdcReadback with
    | .stored => s.gpu.lcdc
    | .draw => Config.freeLcdc s.draws
  | .scy => s.gpu.scrollY
  | .scx => s.gpu.scrollX
  | .ly => Config.freeScanline s.draws
  | .raw => s.mem.read a.toNat

/-- The byte a bus read returns in a state, or the fatal of R72. -/
def State.peek (s : State) (a : Word) : Res Byte :=
  match regionOf s.config a with
  | .overlay =>
    if s.bootLatch then .ok (s.cart.read a.toNat)
    else match s.bios with
      | none => .error (.fault (.biosAbsent a))
      | some bios => .ok (bios.read a.toNat)
  | .cart => .ok (s.cart.read a.toNat)
  | .vram | .extRam | .wram | .oam | .hram => .ok (s.mem.read a.toNat)
  | .echo => .ok (s.mem.read (echoKey s.config a))
  | .ifReg => .ok s.ifReg
  | .ieReg => .ok s.ieReg
  | .io => .ok (s.ioPeek a)
  | .unusable | .unmapped => .ok 0

/-- Whether a read of the address is a draw (R63, D7). -/
def State.readDraws (s : State) (a : Word) : Bool :=
  match regionOf s.config a with
  | .io => match readTapOf s.config.taps a with
    | .ly => true
    | .lcdc => s.config.lcdcReadback = .draw
    | _ => false
  | _ => false

/-- The state after a bus read: unchanged (R70), but for the draw counter where the read is a draw. -/
def State.afterRead (s : State) (a : Word) : State :=
  if s.readDraws a then s.nextDraw else s

/-- `BusRead(a)` (R70). -/
def busRead (a : Word) (s : State) : Res (Byte × State) := do
  let v ← s.peek a
  return (v, s.afterRead a)

/-! ### DMA (R95, R96) and byte writes (R71, R80, R83 to R88, R93) -/

/-- `GPU.write_oam`: sets the oam cell of an address 0xFE00 to 0xFE9F (R63). -/
def State.writeOam (s : State) (a : Nat) (v : Byte) : State := s.setMem (s.mem.write a v)

/-- The next `n` iterations of the loop of `DmaCopy`, from offset `i`: each byte is read, then written, in rising order. -/
def dmaLoop (base : Word) : (n i : Nat) → State → Res State
  | 0, _, s => .ok s
  | n + 1, i, s => do
    let (v, s) ← busRead (base + BitVec.ofNat 16 i) s
    dmaLoop base n (i + 1) (s.writeOam (0xFE00 + i) v)

/-- `DmaCopy(v)` (R95): the 160 bytes from `v * 256` into oam. -/
def dmaCopy (v : Byte) (s : State) : Res State := dmaLoop (Word.ofBytes v 0) 160 0 s

/-- `IoWrite(a, v)` (R80): the raw byte first, then the tap (R93). -/
def ioWrite (a : Word) (v : Byte) (s : State) : Res State :=
  let s := s.setMem (s.mem.write a.toNat v)
  match writeTapOf s.config.taps a with
  | .boot => .ok (s.setBootLatch true)
  | .keypad => .ok (s.setKeypadStub v)
  | .lcdc => .ok (s.setGpu { s.gpu with lcdc := v })
  | .scy => .ok (s.setGpu { s.gpu with scrollY := v })
  | .scx => .ok (s.setGpu { s.gpu with scrollX := v })
  | .bgp => .ok (s.setGpu { s.gpu with bgpal := v })
  | .dma => dmaCopy v s
  | .raw => .ok s

/-- `BusWrite(a, v)` (R71). -/
def busWrite (a : Word) (v : Byte) (s : State) : Res State :=
  match regionOf s.config a with
  | .overlay | .cart | .unusable | .unmapped => .ok s
  | .vram | .extRam | .wram | .hram => .ok (s.setMem (s.mem.write a.toNat v))
  | .oam => .ok (s.writeOam a.toNat v)
  | .echo => .ok (s.setMem (s.mem.write (echoKey s.config a) v))
  | .ifReg => .ok (s.setIf v)
  | .ieReg => .ok (s.setIe v)
  | .io => ioWrite a v s

/-! ### Word access and the stack (R100, R101, R236, R237) -/

/-- `MemRead(a, 2)` (R100, R102): little-endian, the low byte first. -/
def memRead16 (a : Word) (s : State) : Res (Word × State) := do
  let (lo, s) ← busRead a s
  let (hi, s) ← busRead (a + 1) s
  return (Word.ofBytes hi lo, s)

/-- `MemWrite(a, 2, w)` (R101, R102, C1): the high byte to `a + 1` first, then the low byte to `a`. -/
def memWrite16 (a : Word) (w : Word) (s : State) : Res State := do
  let s ← busWrite (a + 1) w.hi s
  busWrite a w.lo s

/-- `Push16(v)` (R236). -/
def push16 (v : Word) (s : State) : Res State :=
  let s := s.setSp (s.sp - 2)
  memWrite16 s.sp v s

/-- `Pop16()` (R237). -/
def pop16 (s : State) : Res (Word × State) := do
  let (v, t) ← memRead16 s.sp s
  return (v, t.setSp (t.sp + 2))

/-! ### Outcomes (R150, R160 steps 4 to 6) -/

/-- The closed four-way tag a handler returns (R150). -/
inductive ExecutionOutcome where
  | none
  | actionTaken
  | jumped
  | jumpedActionTaken
  deriving DecidableEq, Repr

/-- The numbers of an instruction descriptor: length in bytes, base and extra cost in M-cycles (R135). -/
structure Descriptor where
  length : Nat
  base : Nat
  extra : Nat
  deriving DecidableEq, Repr

/-- A handler: the effect of an instruction while PC is `pc0`, and its outcome (R34, R135, R160 step 4). -/
abbrev Handler := State → Res (ExecutionOutcome × State)

/-- How many units of `cycles` one M-cycle is (R152, D8). -/
def perMCycle (cfg : Config) : Nat :=
  match cfg.cycleUnit with
  | .m => 1
  | .t => 4

/-- The cycle charge of an outcome, in M-cycles (R150). -/
def Descriptor.charge (d : Descriptor) (o : ExecutionOutcome) : Nat :=
  match o with
  | .none | .jumped => d.base
  | .actionTaken | .jumpedActionTaken => d.base + d.extra

/-- Steps 5 and 6 of R160: the charge, and the PC advance unless the handler set PC (R150, R162). -/
def applyOutcome (d : Descriptor) (o : ExecutionOutcome) (pc0 : Word) (s : State) : State :=
  let s := s.addCycles (perMCycle s.config * d.charge o)
  match o with
  | .none | .actionTaken => s.setPc (pc0 + BitVec.ofNat 16 d.length)
  | .jumped | .jumpedActionTaken => s

/-- A condition that ends the step, as the outcome of the step (R402). -/
def Stop.toOutcome : Stop → StepOutcome
  | .fault f => .fault f
  | .refused r => .refused r

/-- The outcome of a computation that yields a state. -/
def outcomeOf : Res State → StepOutcome
  | .ok s => .next s
  | .error e => e.toOutcome

/-- Runs a handler at PC = pc0 and applies its outcome (R160 steps 4 to 6). -/
def perform (d : Descriptor) (handler : Handler) (s : State) : StepOutcome :=
  match handler s with
  | .ok (o, t) => .next (applyOutcome d o s.pc t)
  | .error e => e.toOutcome

/-! ### EI's delay and interrupts (R160 step 7, R410 to R416, R340) -/

/-- Step 7 of R160: the enable that EI left pending one step before (R42). -/
def promoteEi (promote : Bool) (s : State) : State :=
  if promote && s.eiDelay then (s.setIme true).setEiDelay false else s

/-- The enabled requests, `IE & IF & 0x1F` (R411, R413). -/
def State.pending (s : State) : Byte := s.ieReg &&& s.ifReg &&& 0x1F

/-- The index of the lowest set bit among bits 0 to 4 (R411); 4 where none of bits 0 to 3 is set. -/
def lowestPending (p : Byte) : Nat :=
  if p.getLsbD 0 then 0
  else if p.getLsbD 1 then 1
  else if p.getLsbD 2 then 2
  else if p.getLsbD 3 then 3
  else 4

/-- Interrupt entry for source `i` (R412): the request cleared, interrupts disabled, PC pushed, the vector, 5 M-cycles. -/
def takeInterrupt (i : Nat) (s : State) : Res State := do
  let s := s.setIf (s.ifReg &&& ~~~(1#8 <<< i))
  let s := (s.setIme false).setEiDelay false
  let s ← push16 s.pc s
  return (s.setPc (BitVec.ofNat 16 (0x0040 + 8 * i))).addCycles (perMCycle s.config * 5)

/-- Return from an interrupt (R340, R415): PC popped, IME set at once. -/
def returnFromInterrupt (s : State) : Res State := do
  let (v, s) ← pop16 s
  return ((s.setPc v).setIme true).setEiDelay false

/-- The interrupt check at the start of a step (R410, R411): whether the step was an interrupt entry, and the state. -/
def interruptCheck (s : State) : Res (Bool × State) :=
  match s.config.interruptModel with
  | .none => .ok (false, s)
  | .sm83 =>
    if s.pending = 0 then .ok (false, s)
    else
      let t := s.setHalted false
      if s.ime then do
        let t ← takeInterrupt (lowestPending s.pending) t
        return (true, t)
      else .ok (false, t)

end Sys2Proof.Machine
end

