-- ==== Sys2Proof/Machine/Flags.lean ====
section
/-! DEFINITION. The flags of F (R32, R38) and the flag laws of 43_alu8.md, 44_alu16.md and 45_rotate_shift_bit.md: results
are computed on unreduced integers and narrowed at the end, as the pseudocode of the rules does. -/

namespace Sys2Proof.Machine

/-! ### F and its flags -/

/-- F as a byte: bits 3 to 0 always read 0 (R32). -/
def State.readF (s : State) : Byte := s.f &&& 0xF0

/-- Z, bit 7 of F (R38). -/
def State.flagZ (s : State) : Bool := s.f.getLsbD 7

/-- N, bit 6 of F (R38). -/
def State.flagN (s : State) : Bool := s.f.getLsbD 6

/-- H, bit 5 of F (R38). -/
def State.flagH (s : State) : Bool := s.f.getLsbD 5

/-- CY, bit 4 of F (R38). -/
def State.flagCy (s : State) : Bool := s.f.getLsbD 4

/-- The four flags in bits 7 to 4 (R38). -/
def flagBits (z n h cy : Bool) : Byte :=
  BitVec.ofBool z ++ BitVec.ofBool n ++ BitVec.ofBool h ++ BitVec.ofBool cy ++ 0#4

/-- Writes the four flags, and no other bit of F (R32). -/
def State.setFlags (s : State) (z n h cy : Bool) : State :=
  s.setF (flagBits z n h cy ||| (s.f &&& 0x0F))

/-- Z, N, H written, CY not written (R14). -/
def State.setFlagsZNH (s : State) (z n h : Bool) : State := s.setFlags z n h s.flagCy

/-- N, H, CY written, Z not written (R14). -/
def State.setFlagsNHC (s : State) (n h cy : Bool) : State := s.setFlags s.flagZ n h cy

/-! ### 8-bit arithmetic and logic -/

/-- A byte result with its four flags. -/
structure AluResult where
  value : Byte
  z : Bool
  n : Bool
  h : Bool
  cy : Bool
  deriving DecidableEq, Repr

/-- ADD and ADC (R251, R252); ADD has carry-in 0. -/
def aluAdd (a v : Byte) (c : Bool) : AluResult :=
  let r := a.toNat + v.toNat + c.toNat
  { value := BitVec.ofNat 8 r
    z := decide (r % 256 = 0)
    n := false
    h := decide (a.toNat % 16 + v.toNat % 16 + c.toNat > 0x0F)
    cy := decide (r > 0xFF) }

/-- SUB and SBC (R253, R254); SUB has borrow-in 0. -/
def aluSub (a v : Byte) (c : Bool) : AluResult :=
  let r : Int := (a.toNat : Int) - v.toNat - c.toNat
  { value := BitVec.ofInt 8 r
    z := decide (r % 256 = 0)
    n := true
    h := decide (a.toNat % 16 < v.toNat % 16 + c.toNat)
    cy := decide (a.toNat < v.toNat + c.toNat) }

/-- AND, XOR and OR (R255, R256, R257): Z from the result, N and CY 0, H as given. -/
def aluLogic (r : Byte) (h : Bool) : AluResult :=
  { value := r, z := decide (r = 0), n := false, h := h, cy := false }

/-- The operation of code `o` on A and the source (R251 to R258). CP has SUB's flags and leaves A. -/
def aluApply (op : AluOp) (a v : Byte) (cy : Bool) : AluResult :=
  match op with
  | .add => aluAdd a v false
  | .adc => aluAdd a v cy
  | .sub => aluSub a v false
  | .sbc => aluSub a v cy
  | .and => aluLogic (a &&& v) true
  | .xor => aluLogic (a ^^^ v) false
  | .or => aluLogic (a ||| v) false
  | .cp => { aluSub a v false with value := a }

/-- H of INC: the low nibble was 0x0F (R259). -/
def incHalf (v : Byte) : Bool := decide (v.toNat % 16 = 0x0F)

/-- H of DEC: the low nibble was 0x00 (R261). -/
def decHalf (v : Byte) : Bool := decide (v.toNat % 16 = 0x00)

/-- DAA's result and carry from A, N, H and CY (R263). -/
def daaResult (a : Byte) (n h cy : Bool) : Byte × Bool :=
  if n then
    let adj := (if h then 0x06 else 0) ||| (if cy then 0x60 else 0)
    (a - adj, cy)
  else
    let high := cy || decide (a.toNat > 0x99)
    let adj := (if h || decide (a.toNat % 16 > 0x09) then 0x06 else 0) ||| (if high then 0x60 else 0)
    (a + adj, high)

/-! ### 16-bit arithmetic -/

/-- H of ADD HL,rr: the carry out of bit 11 (R290). -/
def addHlHalf (h v : Word) : Bool := decide (h.toNat % 0x1000 + v.toNat % 0x1000 > 0x0FFF)

/-- CY of ADD HL,rr: the carry out of bit 15 (R290). -/
def addHlCarry (h v : Word) : Bool := decide (h.toNat + v.toNat > 0xFFFF)

/-- H of ADD SP,e8 and LD HL,SP+e8 (R233, R293). -/
def spOffsetHalf (sp : Word) (e : Byte) : Bool := decide (sp.toNat % 16 + e.toNat % 16 > 0x0F)

/-- CY of ADD SP,e8 and LD HL,SP+e8 (R233, R293). -/
def spOffsetCarry (sp : Word) (e : Byte) : Bool := decide (sp.toNat % 256 + e.toNat > 0xFF)

/-! ### Shifts, rotates and bits -/

/-- A left shift by one with bit 0 given, and the bit shifted out (R300, R302, R305, R307, R309). -/
def shiftLeftIn (v : Byte) (bit0 : Bool) : Byte × Bool :=
  (v <<< 1 ||| (BitVec.ofBool bit0).setWidth 8, v.getLsbD 7)

/-- A right shift by one with bit 7 given, and the bit shifted out (R301, R303, R306, R308, R310, R312). -/
def shiftRightIn (v : Byte) (bit7 : Bool) : Byte × Bool :=
  (v >>> 1 ||| (BitVec.ofBool bit7).setWidth 8 <<< 7, v.getLsbD 0)

/-- The result and carry of a shift or rotate (R305 to R312); SWAP's carry is 0. -/
def shiftApply (op : ShiftOp) (v : Byte) (cy : Bool) : Byte × Bool :=
  match op with
  | .rlc => shiftLeftIn v (v.getLsbD 7)
  | .rrc => shiftRightIn v (v.getLsbD 0)
  | .rl => shiftLeftIn v cy
  | .rr => shiftRightIn v cy
  | .sla => shiftLeftIn v false
  | .sra => shiftRightIn v (v.getLsbD 7)
  | .swap => (v.extractLsb' 0 4 ++ v.extractLsb' 4 4, false)
  | .srl => shiftRightIn v false

/-- The bit index as a number (R143). -/
def bitNumber : BitIndex → Nat
  | .b0 => 0
  | .b1 => 1
  | .b2 => 2
  | .b3 => 3
  | .b4 => 4
  | .b5 => 5
  | .b6 => 6
  | .b7 => 7

/-- `v & ~(1 << b)` (R314). -/
def clearBit (b : BitIndex) (v : Byte) : Byte := v &&& ~~~(1#8 <<< bitNumber b)

/-- `v | (1 << b)` (R315). -/
def setBit (b : BitIndex) (v : Byte) : Byte := v ||| 1#8 <<< bitNumber b

/-- Whether a condition holds (R330). -/
def State.cond (s : State) (cc : Cond) : Bool :=
  match cc with
  | .nz => !s.flagZ
  | .z => s.flagZ
  | .nc => !s.flagCy
  | .c => s.flagCy

end Sys2Proof.Machine
end

