-- ==== Sys2Proof/Machine/Operands.lean ====
section
/-! DEFINITION. Every operand form: registers and pairs (R30, R31, R140 to R142), the memory operand (HL) (R140, R304), the
ALU source (R250), the high page and the signed displacement (R145). -/

namespace Sys2Proof.Machine

/-- An 8-bit register (R30). -/
def State.reg8 (s : State) (r : Reg8) : Byte :=
  match r with
  | .b => s.b
  | .c => s.c
  | .d => s.d
  | .e => s.e
  | .h => s.h
  | .l => s.l
  | .a => s.a

/-- Writes an 8-bit register (R30). -/
def State.setReg8 (s : State) (r : Reg8) (v : Byte) : State :=
  match r with
  | .b => { s with b := v }
  | .c => { s with c := v }
  | .d => { s with d := v }
  | .e => { s with e := v }
  | .h => { s with h := v }
  | .l => { s with l := v }
  | .a => { s with a := v }

/-- BC (R31). -/
def State.bc (s : State) : Word := Word.ofBytes s.b s.c

/-- DE (R31). -/
def State.de (s : State) : Word := Word.ofBytes s.d s.e

/-- HL (R31). -/
def State.hl (s : State) : Word := Word.ofBytes s.h s.l

/-- Writes HL: H and L (R31). -/
def State.setHl (s : State) (v : Word) : State := (s.setReg8 .h v.hi).setReg8 .l v.lo

/-- The pair of code `p` (R141). -/
def State.reg16 (s : State) (p : Reg16) : Word :=
  match p with
  | .bc => s.bc
  | .de => s.de
  | .hl => s.hl
  | .sp => s.sp

/-- Writes the pair of code `p` (R31, R141). -/
def State.setReg16 (s : State) (p : Reg16) (v : Word) : State :=
  match p with
  | .bc => (s.setReg8 .b v.hi).setReg8 .c v.lo
  | .de => (s.setReg8 .d v.hi).setReg8 .e v.lo
  | .hl => s.setHl v
  | .sp => s.setSp v

/-- The pair of code `q`; AF is A and F as it reads (R31, R32, R142). -/
def State.stackPair (s : State) (q : StackPair) : Word :=
  match q with
  | .bc => s.bc
  | .de => s.de
  | .hl => s.hl
  | .af => Word.ofBytes s.a s.readF

/-- Writes the pair of code `q`; AF keeps bits 7 to 4 of the low byte (R31, R32, R235). -/
def State.setStackPair (s : State) (q : StackPair) (v : Word) : State :=
  match q with
  | .bc => (s.setReg8 .b v.hi).setReg8 .c v.lo
  | .de => (s.setReg8 .d v.hi).setReg8 .e v.lo
  | .hl => s.setHl v
  | .af => (s.setReg8 .a v.hi).setF (v.lo &&& 0xF0)

/-- `reg8(i)` (R12, R140). -/
def readOperand8 (o : Operand8) (s : State) : Res (Byte × State) :=
  match o with
  | .reg r => .ok (s.reg8 r, s)
  | .indHl => busRead s.hl s

/-- `reg8(i) <- v` (R12, R140). -/
def writeOperand8 (o : Operand8) (v : Byte) (s : State) : Res State :=
  match o with
  | .reg r => .ok (s.setReg8 r v)
  | .indHl => busWrite s.hl v s

/-- The ALU source (R250). -/
def readSource (src : AluSource) (s : State) : Res (Byte × State) :=
  match src with
  | .reg r => .ok (s.reg8 r, s)
  | .indHl => busRead s.hl s
  | .imm n => .ok (n, s)

/-- The address 0xFF00 + n of LDH and of the (C) forms (R145). -/
def highPage (n : Byte) : Word := Word.ofBytes 0xFF n

/-- `sext_16(e)` (R11, R145). -/
def sext16 (e : Byte) : Word := e.signExtend 16

/-- The address of an RST target, `zext_16(t * 8)` (R143, R341). -/
def rstAddress : RstTarget → Word
  | .t00 => 0x0000
  | .t08 => 0x0008
  | .t10 => 0x0010
  | .t18 => 0x0018
  | .t20 => 0x0020
  | .t28 => 0x0028
  | .t30 => 0x0030
  | .t38 => 0x0038

end Sys2Proof.Machine
end

