-- ==== Sys2Proof/Machine/Alu16.lean ====
section
/-! DEFINITION. The 16-bit arithmetic (44_alu16.md, R290 to R293). All return `None`; results wrap modulo 2^16. -/

namespace Sys2Proof.Machine

/-- R290: Z is not written. -/
def handleAddHl (p : Reg16) : Handler := fun s =>
  let v := s.reg16 p
  .ok (.none, (s.setHl (s.hl + v)).setFlagsNHC false (addHlHalf s.hl v) (addHlCarry s.hl v))

/-- R291. -/
def handleInc16 (p : Reg16) : Handler := fun s => .ok (.none, s.setReg16 p (s.reg16 p + 1))

/-- R292. -/
def handleDec16 (p : Reg16) : Handler := fun s => .ok (.none, s.setReg16 p (s.reg16 p - 1))

/-- R293. -/
def handleAddSpE8 (e : Byte) : Handler := fun s =>
  .ok (.none, (s.setSp (s.sp + sext16 e)).setFlags false false (spOffsetHalf s.sp e) (spOffsetCarry s.sp e))

/-! ### The meanings: one per row of the opcode table, ⟨length, base, extra⟩ as the row gives them -/

/-- `INC BC`, 0x03 (R291). -/
def execIncBc (s : State) : StepOutcome :=
  perform ⟨1, 2, 0⟩ (handleInc16 .bc) s

/-- `ADD HL,BC`, 0x09 (R290). -/
def execAddHlBc (s : State) : StepOutcome :=
  perform ⟨1, 2, 0⟩ (handleAddHl .bc) s

/-- `DEC BC`, 0x0B (R292). -/
def execDecBc (s : State) : StepOutcome :=
  perform ⟨1, 2, 0⟩ (handleDec16 .bc) s

/-- `INC DE`, 0x13 (R291). -/
def execIncDe (s : State) : StepOutcome :=
  perform ⟨1, 2, 0⟩ (handleInc16 .de) s

/-- `ADD HL,DE`, 0x19 (R290). -/
def execAddHlDe (s : State) : StepOutcome :=
  perform ⟨1, 2, 0⟩ (handleAddHl .de) s

/-- `DEC DE`, 0x1B (R292). -/
def execDecDe (s : State) : StepOutcome :=
  perform ⟨1, 2, 0⟩ (handleDec16 .de) s

/-- `INC HL`, 0x23 (R291). -/
def execIncHl (s : State) : StepOutcome :=
  perform ⟨1, 2, 0⟩ (handleInc16 .hl) s

/-- `ADD HL,HL`, 0x29 (R290). -/
def execAddHlHl (s : State) : StepOutcome :=
  perform ⟨1, 2, 0⟩ (handleAddHl .hl) s

/-- `DEC HL`, 0x2B (R292). -/
def execDecHl (s : State) : StepOutcome :=
  perform ⟨1, 2, 0⟩ (handleDec16 .hl) s

/-- `INC SP`, 0x33 (R291). -/
def execIncSp (s : State) : StepOutcome :=
  perform ⟨1, 2, 0⟩ (handleInc16 .sp) s

/-- `ADD HL,SP`, 0x39 (R290). -/
def execAddHlSp (s : State) : StepOutcome :=
  perform ⟨1, 2, 0⟩ (handleAddHl .sp) s

/-- `DEC SP`, 0x3B (R292). -/
def execDecSp (s : State) : StepOutcome :=
  perform ⟨1, 2, 0⟩ (handleDec16 .sp) s

/-- `ADD SP,e8`, 0xE8 (R293). -/
def execAddSpE8 (e : Byte) (s : State) : StepOutcome :=
  perform ⟨2, 4, 0⟩ (handleAddSpE8 e) s

end Sys2Proof.Machine
end

