-- ==== Sys2Proof/Machine/Alu8.lean ====
section
/-! DEFINITION. The 8-bit arithmetic and logic (43_alu8.md, R250 to R266). All return `None`. -/

namespace Sys2Proof.Machine

/-- R251 to R258: the source is read once, before any write; CP stores no result. -/
def handleAlu (op : AluOp) (src : AluSource) : Handler := fun s => do
  let (v, s) ← readSource src s
  let r := aluApply op s.a v s.flagCy
  return (.none, (s.setReg8 .a r.value).setFlags r.z r.n r.h r.cy)

/-- R259, R260: CY is not written. -/
def handleInc8 (o : Operand8) : Handler := fun s => do
  let (v, s) ← readOperand8 o s
  let r := v + 1
  let s ← writeOperand8 o r s
  return (.none, s.setFlagsZNH (decide (r = 0)) false (incHalf v))

/-- R261, R262: CY is not written. -/
def handleDec8 (o : Operand8) : Handler := fun s => do
  let (v, s) ← readOperand8 o s
  let r := v - 1
  let s ← writeOperand8 o r s
  return (.none, s.setFlagsZNH (decide (r = 0)) true (decHalf v))

/-- R263: N is not written. -/
def handleDaa : Handler := fun s =>
  let (r, cy) := daaResult s.a s.flagN s.flagH s.flagCy
  .ok (.none, (s.setReg8 .a r).setFlags (decide (r = 0)) s.flagN false cy)

/-- R264: Z and CY are not written. -/
def handleCpl : Handler := fun s => .ok (.none, (s.setReg8 .a (~~~s.a)).setFlagsNHC true true s.flagCy)

/-- R265: Z is not written. -/
def handleScf : Handler := fun s => .ok (.none, s.setFlagsNHC false false true)

/-- R266: Z is not written. -/
def handleCcf : Handler := fun s => .ok (.none, s.setFlagsNHC false false (!s.flagCy))

/-! ### The meanings: one per row of the opcode table, ⟨length, base, extra⟩ as the row gives them -/

/-- `INC B`, 0x04 (R259). -/
def execIncB (s : State) : StepOutcome :=
  perform ⟨1, 1, 0⟩ (handleInc8 (.reg .b)) s

/-- `DEC B`, 0x05 (R261). -/
def execDecB (s : State) : StepOutcome :=
  perform ⟨1, 1, 0⟩ (handleDec8 (.reg .b)) s

/-- `INC C`, 0x0C (R259). -/
def execIncC (s : State) : StepOutcome :=
  perform ⟨1, 1, 0⟩ (handleInc8 (.reg .c)) s

/-- `DEC C`, 0x0D (R261). -/
def execDecC (s : State) : StepOutcome :=
  perform ⟨1, 1, 0⟩ (handleDec8 (.reg .c)) s

/-- `INC D`, 0x14 (R259). -/
def execIncD (s : State) : StepOutcome :=
  perform ⟨1, 1, 0⟩ (handleInc8 (.reg .d)) s

/-- `DEC D`, 0x15 (R261). -/
def execDecD (s : State) : StepOutcome :=
  perform ⟨1, 1, 0⟩ (handleDec8 (.reg .d)) s

/-- `INC E`, 0x1C (R259). -/
def execIncE (s : State) : StepOutcome :=
  perform ⟨1, 1, 0⟩ (handleInc8 (.reg .e)) s

/-- `DEC E`, 0x1D (R261). -/
def execDecE (s : State) : StepOutcome :=
  perform ⟨1, 1, 0⟩ (handleDec8 (.reg .e)) s

/-- `INC H`, 0x24 (R259). -/
def execIncH (s : State) : StepOutcome :=
  perform ⟨1, 1, 0⟩ (handleInc8 (.reg .h)) s

/-- `DEC H`, 0x25 (R261). -/
def execDecH (s : State) : StepOutcome :=
  perform ⟨1, 1, 0⟩ (handleDec8 (.reg .h)) s

/-- `DAA`, 0x27 (R263). -/
def execDaa (s : State) : StepOutcome :=
  perform ⟨1, 1, 0⟩ handleDaa s

/-- `INC L`, 0x2C (R259). -/
def execIncL (s : State) : StepOutcome :=
  perform ⟨1, 1, 0⟩ (handleInc8 (.reg .l)) s

/-- `DEC L`, 0x2D (R261). -/
def execDecL (s : State) : StepOutcome :=
  perform ⟨1, 1, 0⟩ (handleDec8 (.reg .l)) s

/-- `CPL`, 0x2F (R264). -/
def execCpl (s : State) : StepOutcome :=
  perform ⟨1, 1, 0⟩ handleCpl s

/-- `INC (HL)`, 0x34 (R260). -/
def execIncIndHl (s : State) : StepOutcome :=
  perform ⟨1, 3, 0⟩ (handleInc8 .indHl) s

/-- `DEC (HL)`, 0x35 (R262). -/
def execDecIndHl (s : State) : StepOutcome :=
  perform ⟨1, 3, 0⟩ (handleDec8 .indHl) s

/-- `SCF`, 0x37 (R265). -/
def execScf (s : State) : StepOutcome :=
  perform ⟨1, 1, 0⟩ handleScf s

/-- `INC A`, 0x3C (R259). -/
def execIncA (s : State) : StepOutcome :=
  perform ⟨1, 1, 0⟩ (handleInc8 (.reg .a)) s

/-- `DEC A`, 0x3D (R261). -/
def execDecA (s : State) : StepOutcome :=
  perform ⟨1, 1, 0⟩ (handleDec8 (.reg .a)) s

/-- `CCF`, 0x3F (R266). -/
def execCcf (s : State) : StepOutcome :=
  perform ⟨1, 1, 0⟩ handleCcf s

/-- `ADD A,B`, 0x80 (R251). -/
def execAddAB (s : State) : StepOutcome :=
  perform ⟨1, 1, 0⟩ (handleAlu .add (.reg .b)) s

/-- `ADD A,C`, 0x81 (R251). -/
def execAddAC (s : State) : StepOutcome :=
  perform ⟨1, 1, 0⟩ (handleAlu .add (.reg .c)) s

/-- `ADD A,D`, 0x82 (R251). -/
def execAddAD (s : State) : StepOutcome :=
  perform ⟨1, 1, 0⟩ (handleAlu .add (.reg .d)) s

/-- `ADD A,E`, 0x83 (R251). -/
def execAddAE (s : State) : StepOutcome :=
  perform ⟨1, 1, 0⟩ (handleAlu .add (.reg .e)) s

/-- `ADD A,H`, 0x84 (R251). -/
def execAddAH (s : State) : StepOutcome :=
  perform ⟨1, 1, 0⟩ (handleAlu .add (.reg .h)) s

/-- `ADD A,L`, 0x85 (R251). -/
def execAddAL (s : State) : StepOutcome :=
  perform ⟨1, 1, 0⟩ (handleAlu .add (.reg .l)) s

/-- `ADD A,(HL)`, 0x86 (R251). -/
def execAddAIndHl (s : State) : StepOutcome :=
  perform ⟨1, 2, 0⟩ (handleAlu .add .indHl) s

/-- `ADD A,A`, 0x87 (R251). -/
def execAddAA (s : State) : StepOutcome :=
  perform ⟨1, 1, 0⟩ (handleAlu .add (.reg .a)) s

/-- `ADC A,B`, 0x88 (R252). -/
def execAdcAB (s : State) : StepOutcome :=
  perform ⟨1, 1, 0⟩ (handleAlu .adc (.reg .b)) s

/-- `ADC A,C`, 0x89 (R252). -/
def execAdcAC (s : State) : StepOutcome :=
  perform ⟨1, 1, 0⟩ (handleAlu .adc (.reg .c)) s

/-- `ADC A,D`, 0x8A (R252). -/
def execAdcAD (s : State) : StepOutcome :=
  perform ⟨1, 1, 0⟩ (handleAlu .adc (.reg .d)) s

/-- `ADC A,E`, 0x8B (R252). -/
def execAdcAE (s : State) : StepOutcome :=
  perform ⟨1, 1, 0⟩ (handleAlu .adc (.reg .e)) s

/-- `ADC A,H`, 0x8C (R252). -/
def execAdcAH (s : State) : StepOutcome :=
  perform ⟨1, 1, 0⟩ (handleAlu .adc (.reg .h)) s

/-- `ADC A,L`, 0x8D (R252). -/
def execAdcAL (s : State) : StepOutcome :=
  perform ⟨1, 1, 0⟩ (handleAlu .adc (.reg .l)) s

/-- `ADC A,(HL)`, 0x8E (R252). -/
def execAdcAIndHl (s : State) : StepOutcome :=
  perform ⟨1, 2, 0⟩ (handleAlu .adc .indHl) s

/-- `ADC A,A`, 0x8F (R252). -/
def execAdcAA (s : State) : StepOutcome :=
  perform ⟨1, 1, 0⟩ (handleAlu .adc (.reg .a)) s

/-- `SUB A,B`, 0x90 (R253). -/
def execSubAB (s : State) : StepOutcome :=
  perform ⟨1, 1, 0⟩ (handleAlu .sub (.reg .b)) s

/-- `SUB A,C`, 0x91 (R253). -/
def execSubAC (s : State) : StepOutcome :=
  perform ⟨1, 1, 0⟩ (handleAlu .sub (.reg .c)) s

/-- `SUB A,D`, 0x92 (R253). -/
def execSubAD (s : State) : StepOutcome :=
  perform ⟨1, 1, 0⟩ (handleAlu .sub (.reg .d)) s

/-- `SUB A,E`, 0x93 (R253). -/
def execSubAE (s : State) : StepOutcome :=
  perform ⟨1, 1, 0⟩ (handleAlu .sub (.reg .e)) s

/-- `SUB A,H`, 0x94 (R253). -/
def execSubAH (s : State) : StepOutcome :=
  perform ⟨1, 1, 0⟩ (handleAlu .sub (.reg .h)) s

/-- `SUB A,L`, 0x95 (R253). -/
def execSubAL (s : State) : StepOutcome :=
  perform ⟨1, 1, 0⟩ (handleAlu .sub (.reg .l)) s

/-- `SUB A,(HL)`, 0x96 (R253). -/
def execSubAIndHl (s : State) : StepOutcome :=
  perform ⟨1, 2, 0⟩ (handleAlu .sub .indHl) s

/-- `SUB A,A`, 0x97 (R253). -/
def execSubAA (s : State) : StepOutcome :=
  perform ⟨1, 1, 0⟩ (handleAlu .sub (.reg .a)) s

/-- `SBC A,B`, 0x98 (R254). -/
def execSbcAB (s : State) : StepOutcome :=
  perform ⟨1, 1, 0⟩ (handleAlu .sbc (.reg .b)) s

/-- `SBC A,C`, 0x99 (R254). -/
def execSbcAC (s : State) : StepOutcome :=
  perform ⟨1, 1, 0⟩ (handleAlu .sbc (.reg .c)) s

/-- `SBC A,D`, 0x9A (R254). -/
def execSbcAD (s : State) : StepOutcome :=
  perform ⟨1, 1, 0⟩ (handleAlu .sbc (.reg .d)) s

/-- `SBC A,E`, 0x9B (R254). -/
def execSbcAE (s : State) : StepOutcome :=
  perform ⟨1, 1, 0⟩ (handleAlu .sbc (.reg .e)) s

/-- `SBC A,H`, 0x9C (R254). -/
def execSbcAH (s : State) : StepOutcome :=
  perform ⟨1, 1, 0⟩ (handleAlu .sbc (.reg .h)) s

/-- `SBC A,L`, 0x9D (R254). -/
def execSbcAL (s : State) : StepOutcome :=
  perform ⟨1, 1, 0⟩ (handleAlu .sbc (.reg .l)) s

/-- `SBC A,(HL)`, 0x9E (R254). -/
def execSbcAIndHl (s : State) : StepOutcome :=
  perform ⟨1, 2, 0⟩ (handleAlu .sbc .indHl) s

/-- `SBC A,A`, 0x9F (R254). -/
def execSbcAA (s : State) : StepOutcome :=
  perform ⟨1, 1, 0⟩ (handleAlu .sbc (.reg .a)) s

/-- `AND A,B`, 0xA0 (R255). -/
def execAndAB (s : State) : StepOutcome :=
  perform ⟨1, 1, 0⟩ (handleAlu .and (.reg .b)) s

/-- `AND A,C`, 0xA1 (R255). -/
def execAndAC (s : State) : StepOutcome :=
  perform ⟨1, 1, 0⟩ (handleAlu .and (.reg .c)) s

/-- `AND A,D`, 0xA2 (R255). -/
def execAndAD (s : State) : StepOutcome :=
  perform ⟨1, 1, 0⟩ (handleAlu .and (.reg .d)) s

/-- `AND A,E`, 0xA3 (R255). -/
def execAndAE (s : State) : StepOutcome :=
  perform ⟨1, 1, 0⟩ (handleAlu .and (.reg .e)) s

/-- `AND A,H`, 0xA4 (R255). -/
def execAndAH (s : State) : StepOutcome :=
  perform ⟨1, 1, 0⟩ (handleAlu .and (.reg .h)) s

/-- `AND A,L`, 0xA5 (R255). -/
def execAndAL (s : State) : StepOutcome :=
  perform ⟨1, 1, 0⟩ (handleAlu .and (.reg .l)) s

/-- `AND A,(HL)`, 0xA6 (R255). -/
def execAndAIndHl (s : State) : StepOutcome :=
  perform ⟨1, 2, 0⟩ (handleAlu .and .indHl) s

/-- `AND A,A`, 0xA7 (R255). -/
def execAndAA (s : State) : StepOutcome :=
  perform ⟨1, 1, 0⟩ (handleAlu .and (.reg .a)) s

/-- `XOR A,B`, 0xA8 (R256). -/
def execXorAB (s : State) : StepOutcome :=
  perform ⟨1, 1, 0⟩ (handleAlu .xor (.reg .b)) s

/-- `XOR A,C`, 0xA9 (R256). -/
def execXorAC (s : State) : StepOutcome :=
  perform ⟨1, 1, 0⟩ (handleAlu .xor (.reg .c)) s

/-- `XOR A,D`, 0xAA (R256). -/
def execXorAD (s : State) : StepOutcome :=
  perform ⟨1, 1, 0⟩ (handleAlu .xor (.reg .d)) s

/-- `XOR A,E`, 0xAB (R256). -/
def execXorAE (s : State) : StepOutcome :=
  perform ⟨1, 1, 0⟩ (handleAlu .xor (.reg .e)) s

/-- `XOR A,H`, 0xAC (R256). -/
def execXorAH (s : State) : StepOutcome :=
  perform ⟨1, 1, 0⟩ (handleAlu .xor (.reg .h)) s

/-- `XOR A,L`, 0xAD (R256). -/
def execXorAL (s : State) : StepOutcome :=
  perform ⟨1, 1, 0⟩ (handleAlu .xor (.reg .l)) s

/-- `XOR A,(HL)`, 0xAE (R256). -/
def execXorAIndHl (s : State) : StepOutcome :=
  perform ⟨1, 2, 0⟩ (handleAlu .xor .indHl) s

/-- `XOR A,A`, 0xAF (R256). -/
def execXorAA (s : State) : StepOutcome :=
  perform ⟨1, 1, 0⟩ (handleAlu .xor (.reg .a)) s

/-- `OR A,B`, 0xB0 (R257). -/
def execOrAB (s : State) : StepOutcome :=
  perform ⟨1, 1, 0⟩ (handleAlu .or (.reg .b)) s

/-- `OR A,C`, 0xB1 (R257). -/
def execOrAC (s : State) : StepOutcome :=
  perform ⟨1, 1, 0⟩ (handleAlu .or (.reg .c)) s

/-- `OR A,D`, 0xB2 (R257). -/
def execOrAD (s : State) : StepOutcome :=
  perform ⟨1, 1, 0⟩ (handleAlu .or (.reg .d)) s

/-- `OR A,E`, 0xB3 (R257). -/
def execOrAE (s : State) : StepOutcome :=
  perform ⟨1, 1, 0⟩ (handleAlu .or (.reg .e)) s

/-- `OR A,H`, 0xB4 (R257). -/
def execOrAH (s : State) : StepOutcome :=
  perform ⟨1, 1, 0⟩ (handleAlu .or (.reg .h)) s

/-- `OR A,L`, 0xB5 (R257). -/
def execOrAL (s : State) : StepOutcome :=
  perform ⟨1, 1, 0⟩ (handleAlu .or (.reg .l)) s

/-- `OR A,(HL)`, 0xB6 (R257). -/
def execOrAIndHl (s : State) : StepOutcome :=
  perform ⟨1, 2, 0⟩ (handleAlu .or .indHl) s

/-- `OR A,A`, 0xB7 (R257). -/
def execOrAA (s : State) : StepOutcome :=
  perform ⟨1, 1, 0⟩ (handleAlu .or (.reg .a)) s

/-- `CP A,B`, 0xB8 (R258). -/
def execCpAB (s : State) : StepOutcome :=
  perform ⟨1, 1, 0⟩ (handleAlu .cp (.reg .b)) s

/-- `CP A,C`, 0xB9 (R258). -/
def execCpAC (s : State) : StepOutcome :=
  perform ⟨1, 1, 0⟩ (handleAlu .cp (.reg .c)) s

/-- `CP A,D`, 0xBA (R258). -/
def execCpAD (s : State) : StepOutcome :=
  perform ⟨1, 1, 0⟩ (handleAlu .cp (.reg .d)) s

/-- `CP A,E`, 0xBB (R258). -/
def execCpAE (s : State) : StepOutcome :=
  perform ⟨1, 1, 0⟩ (handleAlu .cp (.reg .e)) s

/-- `CP A,H`, 0xBC (R258). -/
def execCpAH (s : State) : StepOutcome :=
  perform ⟨1, 1, 0⟩ (handleAlu .cp (.reg .h)) s

/-- `CP A,L`, 0xBD (R258). -/
def execCpAL (s : State) : StepOutcome :=
  perform ⟨1, 1, 0⟩ (handleAlu .cp (.reg .l)) s

/-- `CP A,(HL)`, 0xBE (R258). -/
def execCpAIndHl (s : State) : StepOutcome :=
  perform ⟨1, 2, 0⟩ (handleAlu .cp .indHl) s

/-- `CP A,A`, 0xBF (R258). -/
def execCpAA (s : State) : StepOutcome :=
  perform ⟨1, 1, 0⟩ (handleAlu .cp (.reg .a)) s

/-- `ADD A,n8`, 0xC6 (R251). -/
def execAddAN8 (n : Byte) (s : State) : StepOutcome :=
  perform ⟨2, 2, 0⟩ (handleAlu .add (.imm n)) s

/-- `ADC A,n8`, 0xCE (R252). -/
def execAdcAN8 (n : Byte) (s : State) : StepOutcome :=
  perform ⟨2, 2, 0⟩ (handleAlu .adc (.imm n)) s

/-- `SUB A,n8`, 0xD6 (R253). -/
def execSubAN8 (n : Byte) (s : State) : StepOutcome :=
  perform ⟨2, 2, 0⟩ (handleAlu .sub (.imm n)) s

/-- `SBC A,n8`, 0xDE (R254). -/
def execSbcAN8 (n : Byte) (s : State) : StepOutcome :=
  perform ⟨2, 2, 0⟩ (handleAlu .sbc (.imm n)) s

/-- `AND A,n8`, 0xE6 (R255). -/
def execAndAN8 (n : Byte) (s : State) : StepOutcome :=
  perform ⟨2, 2, 0⟩ (handleAlu .and (.imm n)) s

/-- `XOR A,n8`, 0xEE (R256). -/
def execXorAN8 (n : Byte) (s : State) : StepOutcome :=
  perform ⟨2, 2, 0⟩ (handleAlu .xor (.imm n)) s

/-- `OR A,n8`, 0xF6 (R257). -/
def execOrAN8 (n : Byte) (s : State) : StepOutcome :=
  perform ⟨2, 2, 0⟩ (handleAlu .or (.imm n)) s

/-- `CP A,n8`, 0xFE (R258). -/
def execCpAN8 (n : Byte) (s : State) : StepOutcome :=
  perform ⟨2, 2, 0⟩ (handleAlu .cp (.imm n)) s

end Sys2Proof.Machine
end

