-- ==== Sys2Proof/Machine/Control.lean ====
section
/-! DEFINITION. Jumps, calls and returns (46_control.md, R330 to R341). A handler that sets PC returns `Jumped` or
`JumpedActionTaken` (R151). While a handler runs, PC is `pc0` (R34). -/

namespace Sys2Proof.Machine

/-- R331, R333: HL is a target, not a pointer. -/
def handleJp (target : Word) : Handler := fun s => .ok (.jumped, s.setPc target)

/-- R332. -/
def handleJpCond (cc : Cond) (target : Word) : Handler := fun s =>
  if s.cond cc then .ok (.jumpedActionTaken, s.setPc target) else .ok (.none, s)

/-- The target of a relative jump, `pc0 + 2 + sext_16(e)` (R334, R335). -/
def relativeTarget (pc0 : Word) (e : Byte) : Word := pc0 + 2 + sext16 e

/-- R334. -/
def handleJr (e : Byte) : Handler := fun s => .ok (.jumped, s.setPc (relativeTarget s.pc e))

/-- R335. -/
def handleJrCond (cc : Cond) (e : Byte) : Handler := fun s =>
  if s.cond cc then .ok (.jumpedActionTaken, s.setPc (relativeTarget s.pc e)) else .ok (.none, s)

/-- A call: the return address pushed, then PC set (R336, R341). -/
def callTo (returnAddress target : Word) (s : State) : Res State := do
  let s ← push16 returnAddress s
  return s.setPc target

/-- R336. -/
def handleCall (target : Word) : Handler := fun s => do
  let s ← callTo (s.pc + 3) target s
  return (.jumped, s)

/-- R337: not taken, nothing is pushed. -/
def handleCallCond (cc : Cond) (target : Word) : Handler := fun s =>
  if s.cond cc then do
    let s ← callTo (s.pc + 3) target s
    return (.jumpedActionTaken, s)
  else .ok (.none, s)

/-- A return: PC popped (R338, R339). -/
def returnFrom (s : State) : Res State := do
  let (v, s) ← pop16 s
  return s.setPc v

/-- R338. -/
def handleRet : Handler := fun s => do
  let s ← returnFrom s
  return (.jumped, s)

/-- R339: not taken, nothing is read from the stack. -/
def handleRetCond (cc : Cond) : Handler := fun s =>
  if s.cond cc then do
    let s ← returnFrom s
    return (.jumpedActionTaken, s)
  else .ok (.none, s)

/-- R340. -/
def handleReti : Handler := fun s => do
  let s ← returnFromInterrupt s
  return (.jumped, s)

/-- R341. -/
def handleRst (t : RstTarget) : Handler := fun s => do
  let s ← callTo (s.pc + 1) (rstAddress t) s
  return (.jumped, s)

/-! ### The meanings: one per row of the opcode table, ⟨length, base, extra⟩ as the row gives them -/

/-- `JR e8`, 0x18 (R334). -/
def execJrE8 (e : Byte) (s : State) : StepOutcome :=
  perform ⟨2, 3, 0⟩ (handleJr e) s

/-- `JR NZ,e8`, 0x20 (R335). -/
def execJrNzE8 (e : Byte) (s : State) : StepOutcome :=
  perform ⟨2, 2, 1⟩ (handleJrCond .nz e) s

/-- `JR Z,e8`, 0x28 (R335). -/
def execJrZE8 (e : Byte) (s : State) : StepOutcome :=
  perform ⟨2, 2, 1⟩ (handleJrCond .z e) s

/-- `JR NC,e8`, 0x30 (R335). -/
def execJrNcE8 (e : Byte) (s : State) : StepOutcome :=
  perform ⟨2, 2, 1⟩ (handleJrCond .nc e) s

/-- `JR C,e8`, 0x38 (R335). -/
def execJrCE8 (e : Byte) (s : State) : StepOutcome :=
  perform ⟨2, 2, 1⟩ (handleJrCond .c e) s

/-- `RET NZ`, 0xC0 (R339). -/
def execRetNz (s : State) : StepOutcome :=
  perform ⟨1, 2, 3⟩ (handleRetCond .nz) s

/-- `JP NZ,a16`, 0xC2 (R332). -/
def execJpNzA16 (a : Word) (s : State) : StepOutcome :=
  perform ⟨3, 3, 1⟩ (handleJpCond .nz a) s

/-- `JP a16`, 0xC3 (R331). -/
def execJpA16 (a : Word) (s : State) : StepOutcome :=
  perform ⟨3, 4, 0⟩ (handleJp a) s

/-- `CALL NZ,a16`, 0xC4 (R337). -/
def execCallNzA16 (a : Word) (s : State) : StepOutcome :=
  perform ⟨3, 3, 3⟩ (handleCallCond .nz a) s

/-- `RST $00`, 0xC7 (R341). -/
def execRst00 (s : State) : StepOutcome :=
  perform ⟨1, 4, 0⟩ (handleRst .t00) s

/-- `RET Z`, 0xC8 (R339). -/
def execRetZ (s : State) : StepOutcome :=
  perform ⟨1, 2, 3⟩ (handleRetCond .z) s

/-- `RET`, 0xC9 (R338). -/
def execRet (s : State) : StepOutcome :=
  perform ⟨1, 4, 0⟩ handleRet s

/-- `JP Z,a16`, 0xCA (R332). -/
def execJpZA16 (a : Word) (s : State) : StepOutcome :=
  perform ⟨3, 3, 1⟩ (handleJpCond .z a) s

/-- `CALL Z,a16`, 0xCC (R337). -/
def execCallZA16 (a : Word) (s : State) : StepOutcome :=
  perform ⟨3, 3, 3⟩ (handleCallCond .z a) s

/-- `CALL a16`, 0xCD (R336). -/
def execCallA16 (a : Word) (s : State) : StepOutcome :=
  perform ⟨3, 6, 0⟩ (handleCall a) s

/-- `RST $08`, 0xCF (R341). -/
def execRst08 (s : State) : StepOutcome :=
  perform ⟨1, 4, 0⟩ (handleRst .t08) s

/-- `RET NC`, 0xD0 (R339). -/
def execRetNc (s : State) : StepOutcome :=
  perform ⟨1, 2, 3⟩ (handleRetCond .nc) s

/-- `JP NC,a16`, 0xD2 (R332). -/
def execJpNcA16 (a : Word) (s : State) : StepOutcome :=
  perform ⟨3, 3, 1⟩ (handleJpCond .nc a) s

/-- `CALL NC,a16`, 0xD4 (R337). -/
def execCallNcA16 (a : Word) (s : State) : StepOutcome :=
  perform ⟨3, 3, 3⟩ (handleCallCond .nc a) s

/-- `RST $10`, 0xD7 (R341). -/
def execRst10 (s : State) : StepOutcome :=
  perform ⟨1, 4, 0⟩ (handleRst .t10) s

/-- `RET C`, 0xD8 (R339). -/
def execRetC (s : State) : StepOutcome :=
  perform ⟨1, 2, 3⟩ (handleRetCond .c) s

/-- `RETI`, 0xD9 (R340). -/
def execReti (s : State) : StepOutcome :=
  perform ⟨1, 4, 0⟩ handleReti s

/-- `JP C,a16`, 0xDA (R332). -/
def execJpCA16 (a : Word) (s : State) : StepOutcome :=
  perform ⟨3, 3, 1⟩ (handleJpCond .c a) s

/-- `CALL C,a16`, 0xDC (R337). -/
def execCallCA16 (a : Word) (s : State) : StepOutcome :=
  perform ⟨3, 3, 3⟩ (handleCallCond .c a) s

/-- `RST $18`, 0xDF (R341). -/
def execRst18 (s : State) : StepOutcome :=
  perform ⟨1, 4, 0⟩ (handleRst .t18) s

/-- `RST $20`, 0xE7 (R341). -/
def execRst20 (s : State) : StepOutcome :=
  perform ⟨1, 4, 0⟩ (handleRst .t20) s

/-- `JP HL`, 0xE9 (R333). -/
def execJpHl (s : State) : StepOutcome :=
  perform ⟨1, 1, 0⟩ (handleJp s.hl) s

/-- `RST $28`, 0xEF (R341). -/
def execRst28 (s : State) : StepOutcome :=
  perform ⟨1, 4, 0⟩ (handleRst .t28) s

/-- `RST $30`, 0xF7 (R341). -/
def execRst30 (s : State) : StepOutcome :=
  perform ⟨1, 4, 0⟩ (handleRst .t30) s

/-- `RST $38`, 0xFF (R341). -/
def execRst38 (s : State) : StepOutcome :=
  perform ⟨1, 4, 0⟩ (handleRst .t38) s

end Sys2Proof.Machine
end

