-- ==== Sys2Proof/Machine/Load16.lean ====
section
/-! DEFINITION. The 16-bit loads, PUSH and POP (42_load16.md, R230 to R235). All return `None`. -/

namespace Sys2Proof.Machine

/-- R230. -/
def handleLdPairN16 (p : Reg16) (n : Word) : Handler := fun s => .ok (.none, s.setReg16 p n)

/-- R231: the high byte of SP goes to `a + 1` first, then the low byte to `a`. -/
def handleLdIndA16Sp (a : Word) : Handler := fun s => do
  let s ← memWrite16 a s.sp s
  return (.none, s)

/-- R232. -/
def handleLdSpHl : Handler := fun s => .ok (.none, s.setSp s.hl)

/-- R233. -/
def handleLdHlSpE8 (e : Byte) : Handler := fun s =>
  .ok (.none, (s.setHl (s.sp + sext16 e)).setFlags false false (spOffsetHalf s.sp e) (spOffsetCarry s.sp e))

/-- R234. -/
def handlePush (q : StackPair) : Handler := fun s => do
  let s ← push16 (s.stackPair q) s
  return (.none, s)

/-- R235. -/
def handlePop (q : StackPair) : Handler := fun s => do
  let (v, s) ← pop16 s
  return (.none, s.setStackPair q v)

/-! ### The meanings: one per row of the opcode table, ⟨length, base, extra⟩ as the row gives them -/

/-- `LD BC,n16`, 0x01 (R230). -/
def execLdBcN16 (n : Word) (s : State) : StepOutcome :=
  perform ⟨3, 3, 0⟩ (handleLdPairN16 .bc n) s

/-- `LD (a16),SP`, 0x08 (R231). -/
def execLdIndA16Sp (a : Word) (s : State) : StepOutcome :=
  perform ⟨3, 5, 0⟩ (handleLdIndA16Sp a) s

/-- `LD DE,n16`, 0x11 (R230). -/
def execLdDeN16 (n : Word) (s : State) : StepOutcome :=
  perform ⟨3, 3, 0⟩ (handleLdPairN16 .de n) s

/-- `LD HL,n16`, 0x21 (R230). -/
def execLdHlN16 (n : Word) (s : State) : StepOutcome :=
  perform ⟨3, 3, 0⟩ (handleLdPairN16 .hl n) s

/-- `LD SP,n16`, 0x31 (R230). -/
def execLdSpN16 (n : Word) (s : State) : StepOutcome :=
  perform ⟨3, 3, 0⟩ (handleLdPairN16 .sp n) s

/-- `POP BC`, 0xC1 (R235). -/
def execPopBc (s : State) : StepOutcome :=
  perform ⟨1, 3, 0⟩ (handlePop .bc) s

/-- `PUSH BC`, 0xC5 (R234). -/
def execPushBc (s : State) : StepOutcome :=
  perform ⟨1, 4, 0⟩ (handlePush .bc) s

/-- `POP DE`, 0xD1 (R235). -/
def execPopDe (s : State) : StepOutcome :=
  perform ⟨1, 3, 0⟩ (handlePop .de) s

/-- `PUSH DE`, 0xD5 (R234). -/
def execPushDe (s : State) : StepOutcome :=
  perform ⟨1, 4, 0⟩ (handlePush .de) s

/-- `POP HL`, 0xE1 (R235). -/
def execPopHl (s : State) : StepOutcome :=
  perform ⟨1, 3, 0⟩ (handlePop .hl) s

/-- `PUSH HL`, 0xE5 (R234). -/
def execPushHl (s : State) : StepOutcome :=
  perform ⟨1, 4, 0⟩ (handlePush .hl) s

/-- `POP AF`, 0xF1 (R235). -/
def execPopAf (s : State) : StepOutcome :=
  perform ⟨1, 3, 0⟩ (handlePop .af) s

/-- `PUSH AF`, 0xF5 (R234). -/
def execPushAf (s : State) : StepOutcome :=
  perform ⟨1, 4, 0⟩ (handlePush .af) s

/-- `LD HL,SP+e8`, 0xF8 (R233). -/
def execLdHlSpE8 (e : Byte) (s : State) : StepOutcome :=
  perform ⟨2, 3, 0⟩ (handleLdHlSpE8 e) s

/-- `LD SP,HL`, 0xF9 (R232). -/
def execLdSpHl (s : State) : StepOutcome :=
  perform ⟨1, 2, 0⟩ handleLdSpHl s

end Sys2Proof.Machine
end

