-- ==== Sys2Proof/Machine/Load8.lean ====
section
/-! DEFINITION. The 8-bit loads and stores (41_load8.md, R200 to R218). None writes a flag and all return `None`. -/

namespace Sys2Proof.Machine

/-- R200. -/
def handleLdRegReg (dst src : Reg8) : Handler := fun s => .ok (.none, s.setReg8 dst (s.reg8 src))

/-- R201. -/
def handleLdRegN8 (dst : Reg8) (n : Byte) : Handler := fun s => .ok (.none, s.setReg8 dst n)

/-- R202: HL is read before the destination is written. -/
def handleLdRegIndHl (dst : Reg8) : Handler := fun s => do
  let (v, s) ← busRead s.hl s
  return (.none, s.setReg8 dst v)

/-- R203. -/
def handleLdIndHlReg (src : Reg8) : Handler := fun s => do
  let s ← busWrite s.hl (s.reg8 src) s
  return (.none, s)

/-- R204. -/
def handleLdIndHlN8 (n : Byte) : Handler := fun s => do
  let s ← busWrite s.hl n s
  return (.none, s)

/-- `A <- MemRead(addr, 1)` (R205, R206, R209, R211, R213). -/
def handleLoadA (addr : Word) : Handler := fun s => do
  let (v, s) ← busRead addr s
  return (.none, s.setReg8 .a v)

/-- `MemWrite(addr, 1, A)` (R207, R208, R210, R212, R214). -/
def handleStoreA (addr : Word) : Handler := fun s => do
  let s ← busWrite addr s.a s
  return (.none, s)

/-- A stored at HL, then HL moved by one, wrapping (R215, R217). -/
def handleStoreAMoveHl (delta : Word) : Handler := fun s => do
  let addr := s.hl
  let s ← busWrite addr s.a s
  return (.none, s.setHl (addr + delta))

/-- A loaded from HL, then HL moved by one, wrapping (R216, R218). -/
def handleLoadAMoveHl (delta : Word) : Handler := fun s => do
  let addr := s.hl
  let (v, s) ← busRead addr s
  return (.none, (s.setReg8 .a v).setHl (addr + delta))

/-! ### The meanings: one per row of the opcode table, ⟨length, base, extra⟩ as the row gives them -/

/-- `LD (BC),A`, 0x02 (R207). -/
def execLdIndBcA (s : State) : StepOutcome :=
  perform ⟨1, 2, 0⟩ (handleStoreA s.bc) s

/-- `LD B,n8`, 0x06 (R201). -/
def execLdBN8 (n : Byte) (s : State) : StepOutcome :=
  perform ⟨2, 2, 0⟩ (handleLdRegN8 .b n) s

/-- `LD A,(BC)`, 0x0A (R205). -/
def execLdAIndBc (s : State) : StepOutcome :=
  perform ⟨1, 2, 0⟩ (handleLoadA s.bc) s

/-- `LD C,n8`, 0x0E (R201). -/
def execLdCN8 (n : Byte) (s : State) : StepOutcome :=
  perform ⟨2, 2, 0⟩ (handleLdRegN8 .c n) s

/-- `LD (DE),A`, 0x12 (R208). -/
def execLdIndDeA (s : State) : StepOutcome :=
  perform ⟨1, 2, 0⟩ (handleStoreA s.de) s

/-- `LD D,n8`, 0x16 (R201). -/
def execLdDN8 (n : Byte) (s : State) : StepOutcome :=
  perform ⟨2, 2, 0⟩ (handleLdRegN8 .d n) s

/-- `LD A,(DE)`, 0x1A (R206). -/
def execLdAIndDe (s : State) : StepOutcome :=
  perform ⟨1, 2, 0⟩ (handleLoadA s.de) s

/-- `LD E,n8`, 0x1E (R201). -/
def execLdEN8 (n : Byte) (s : State) : StepOutcome :=
  perform ⟨2, 2, 0⟩ (handleLdRegN8 .e n) s

/-- `LD (HL+),A`, 0x22 (R215). -/
def execLdIndHlIncA (s : State) : StepOutcome :=
  perform ⟨1, 2, 0⟩ (handleStoreAMoveHl 1) s

/-- `LD H,n8`, 0x26 (R201). -/
def execLdHN8 (n : Byte) (s : State) : StepOutcome :=
  perform ⟨2, 2, 0⟩ (handleLdRegN8 .h n) s

/-- `LD A,(HL+)`, 0x2A (R216). -/
def execLdAIndHlInc (s : State) : StepOutcome :=
  perform ⟨1, 2, 0⟩ (handleLoadAMoveHl 1) s

/-- `LD L,n8`, 0x2E (R201). -/
def execLdLN8 (n : Byte) (s : State) : StepOutcome :=
  perform ⟨2, 2, 0⟩ (handleLdRegN8 .l n) s

/-- `LD (HL-),A`, 0x32 (R217). -/
def execLdIndHlDecA (s : State) : StepOutcome :=
  perform ⟨1, 2, 0⟩ (handleStoreAMoveHl (-1)) s

/-- `LD (HL),n8`, 0x36 (R204). -/
def execLdIndHlN8 (n : Byte) (s : State) : StepOutcome :=
  perform ⟨2, 3, 0⟩ (handleLdIndHlN8 n) s

/-- `LD A,(HL-)`, 0x3A (R218). -/
def execLdAIndHlDec (s : State) : StepOutcome :=
  perform ⟨1, 2, 0⟩ (handleLoadAMoveHl (-1)) s

/-- `LD A,n8`, 0x3E (R201). -/
def execLdAN8 (n : Byte) (s : State) : StepOutcome :=
  perform ⟨2, 2, 0⟩ (handleLdRegN8 .a n) s

/-- `LD B,B`, 0x40 (R200). -/
def execLdBB (s : State) : StepOutcome :=
  perform ⟨1, 1, 0⟩ (handleLdRegReg .b .b) s

/-- `LD B,C`, 0x41 (R200). -/
def execLdBC (s : State) : StepOutcome :=
  perform ⟨1, 1, 0⟩ (handleLdRegReg .b .c) s

/-- `LD B,D`, 0x42 (R200). -/
def execLdBD (s : State) : StepOutcome :=
  perform ⟨1, 1, 0⟩ (handleLdRegReg .b .d) s

/-- `LD B,E`, 0x43 (R200). -/
def execLdBE (s : State) : StepOutcome :=
  perform ⟨1, 1, 0⟩ (handleLdRegReg .b .e) s

/-- `LD B,H`, 0x44 (R200). -/
def execLdBH (s : State) : StepOutcome :=
  perform ⟨1, 1, 0⟩ (handleLdRegReg .b .h) s

/-- `LD B,L`, 0x45 (R200). -/
def execLdBL (s : State) : StepOutcome :=
  perform ⟨1, 1, 0⟩ (handleLdRegReg .b .l) s

/-- `LD B,(HL)`, 0x46 (R202). -/
def execLdBIndHl (s : State) : StepOutcome :=
  perform ⟨1, 2, 0⟩ (handleLdRegIndHl .b) s

/-- `LD B,A`, 0x47 (R200). -/
def execLdBA (s : State) : StepOutcome :=
  perform ⟨1, 1, 0⟩ (handleLdRegReg .b .a) s

/-- `LD C,B`, 0x48 (R200). -/
def execLdCB (s : State) : StepOutcome :=
  perform ⟨1, 1, 0⟩ (handleLdRegReg .c .b) s

/-- `LD C,C`, 0x49 (R200). -/
def execLdCC (s : State) : StepOutcome :=
  perform ⟨1, 1, 0⟩ (handleLdRegReg .c .c) s

/-- `LD C,D`, 0x4A (R200). -/
def execLdCD (s : State) : StepOutcome :=
  perform ⟨1, 1, 0⟩ (handleLdRegReg .c .d) s

/-- `LD C,E`, 0x4B (R200). -/
def execLdCE (s : State) : StepOutcome :=
  perform ⟨1, 1, 0⟩ (handleLdRegReg .c .e) s

/-- `LD C,H`, 0x4C (R200). -/
def execLdCH (s : State) : StepOutcome :=
  perform ⟨1, 1, 0⟩ (handleLdRegReg .c .h) s

/-- `LD C,L`, 0x4D (R200). -/
def execLdCL (s : State) : StepOutcome :=
  perform ⟨1, 1, 0⟩ (handleLdRegReg .c .l) s

/-- `LD C,(HL)`, 0x4E (R202). -/
def execLdCIndHl (s : State) : StepOutcome :=
  perform ⟨1, 2, 0⟩ (handleLdRegIndHl .c) s

/-- `LD C,A`, 0x4F (R200). -/
def execLdCA (s : State) : StepOutcome :=
  perform ⟨1, 1, 0⟩ (handleLdRegReg .c .a) s

/-- `LD D,B`, 0x50 (R200). -/
def execLdDB (s : State) : StepOutcome :=
  perform ⟨1, 1, 0⟩ (handleLdRegReg .d .b) s

/-- `LD D,C`, 0x51 (R200). -/
def execLdDC (s : State) : StepOutcome :=
  perform ⟨1, 1, 0⟩ (handleLdRegReg .d .c) s

/-- `LD D,D`, 0x52 (R200). -/
def execLdDD (s : State) : StepOutcome :=
  perform ⟨1, 1, 0⟩ (handleLdRegReg .d .d) s

/-- `LD D,E`, 0x53 (R200). -/
def execLdDE (s : State) : StepOutcome :=
  perform ⟨1, 1, 0⟩ (handleLdRegReg .d .e) s

/-- `LD D,H`, 0x54 (R200). -/
def execLdDH (s : State) : StepOutcome :=
  perform ⟨1, 1, 0⟩ (handleLdRegReg .d .h) s

/-- `LD D,L`, 0x55 (R200). -/
def execLdDL (s : State) : StepOutcome :=
  perform ⟨1, 1, 0⟩ (handleLdRegReg .d .l) s

/-- `LD D,(HL)`, 0x56 (R202). -/
def execLdDIndHl (s : State) : StepOutcome :=
  perform ⟨1, 2, 0⟩ (handleLdRegIndHl .d) s

/-- `LD D,A`, 0x57 (R200). -/
def execLdDA (s : State) : StepOutcome :=
  perform ⟨1, 1, 0⟩ (handleLdRegReg .d .a) s

/-- `LD E,B`, 0x58 (R200). -/
def execLdEB (s : State) : StepOutcome :=
  perform ⟨1, 1, 0⟩ (handleLdRegReg .e .b) s

/-- `LD E,C`, 0x59 (R200). -/
def execLdEC (s : State) : StepOutcome :=
  perform ⟨1, 1, 0⟩ (handleLdRegReg .e .c) s

/-- `LD E,D`, 0x5A (R200). -/
def execLdED (s : State) : StepOutcome :=
  perform ⟨1, 1, 0⟩ (handleLdRegReg .e .d) s

/-- `LD E,E`, 0x5B (R200). -/
def execLdEE (s : State) : StepOutcome :=
  perform ⟨1, 1, 0⟩ (handleLdRegReg .e .e) s

/-- `LD E,H`, 0x5C (R200). -/
def execLdEH (s : State) : StepOutcome :=
  perform ⟨1, 1, 0⟩ (handleLdRegReg .e .h) s

/-- `LD E,L`, 0x5D (R200). -/
def execLdEL (s : State) : StepOutcome :=
  perform ⟨1, 1, 0⟩ (handleLdRegReg .e .l) s

/-- `LD E,(HL)`, 0x5E (R202). -/
def execLdEIndHl (s : State) : StepOutcome :=
  perform ⟨1, 2, 0⟩ (handleLdRegIndHl .e) s

/-- `LD E,A`, 0x5F (R200). -/
def execLdEA (s : State) : StepOutcome :=
  perform ⟨1, 1, 0⟩ (handleLdRegReg .e .a) s

/-- `LD H,B`, 0x60 (R200). -/
def execLdHB (s : State) : StepOutcome :=
  perform ⟨1, 1, 0⟩ (handleLdRegReg .h .b) s

/-- `LD H,C`, 0x61 (R200). -/
def execLdHC (s : State) : StepOutcome :=
  perform ⟨1, 1, 0⟩ (handleLdRegReg .h .c) s

/-- `LD H,D`, 0x62 (R200). -/
def execLdHD (s : State) : StepOutcome :=
  perform ⟨1, 1, 0⟩ (handleLdRegReg .h .d) s

/-- `LD H,E`, 0x63 (R200). -/
def execLdHE (s : State) : StepOutcome :=
  perform ⟨1, 1, 0⟩ (handleLdRegReg .h .e) s

/-- `LD H,H`, 0x64 (R200). -/
def execLdHH (s : State) : StepOutcome :=
  perform ⟨1, 1, 0⟩ (handleLdRegReg .h .h) s

/-- `LD H,L`, 0x65 (R200). -/
def execLdHL (s : State) : StepOutcome :=
  perform ⟨1, 1, 0⟩ (handleLdRegReg .h .l) s

/-- `LD H,(HL)`, 0x66 (R202). -/
def execLdHIndHl (s : State) : StepOutcome :=
  perform ⟨1, 2, 0⟩ (handleLdRegIndHl .h) s

/-- `LD H,A`, 0x67 (R200). -/
def execLdHA (s : State) : StepOutcome :=
  perform ⟨1, 1, 0⟩ (handleLdRegReg .h .a) s

/-- `LD L,B`, 0x68 (R200). -/
def execLdLB (s : State) : StepOutcome :=
  perform ⟨1, 1, 0⟩ (handleLdRegReg .l .b) s

/-- `LD L,C`, 0x69 (R200). -/
def execLdLC (s : State) : StepOutcome :=
  perform ⟨1, 1, 0⟩ (handleLdRegReg .l .c) s

/-- `LD L,D`, 0x6A (R200). -/
def execLdLD (s : State) : StepOutcome :=
  perform ⟨1, 1, 0⟩ (handleLdRegReg .l .d) s

/-- `LD L,E`, 0x6B (R200). -/
def execLdLE (s : State) : StepOutcome :=
  perform ⟨1, 1, 0⟩ (handleLdRegReg .l .e) s

/-- `LD L,H`, 0x6C (R200). -/
def execLdLH (s : State) : StepOutcome :=
  perform ⟨1, 1, 0⟩ (handleLdRegReg .l .h) s

/-- `LD L,L`, 0x6D (R200). -/
def execLdLL (s : State) : StepOutcome :=
  perform ⟨1, 1, 0⟩ (handleLdRegReg .l .l) s

/-- `LD L,(HL)`, 0x6E (R202). -/
def execLdLIndHl (s : State) : StepOutcome :=
  perform ⟨1, 2, 0⟩ (handleLdRegIndHl .l) s

/-- `LD L,A`, 0x6F (R200). -/
def execLdLA (s : State) : StepOutcome :=
  perform ⟨1, 1, 0⟩ (handleLdRegReg .l .a) s

/-- `LD (HL),B`, 0x70 (R203). -/
def execLdIndHlB (s : State) : StepOutcome :=
  perform ⟨1, 2, 0⟩ (handleLdIndHlReg .b) s

/-- `LD (HL),C`, 0x71 (R203). -/
def execLdIndHlC (s : State) : StepOutcome :=
  perform ⟨1, 2, 0⟩ (handleLdIndHlReg .c) s

/-- `LD (HL),D`, 0x72 (R203). -/
def execLdIndHlD (s : State) : StepOutcome :=
  perform ⟨1, 2, 0⟩ (handleLdIndHlReg .d) s

/-- `LD (HL),E`, 0x73 (R203). -/
def execLdIndHlE (s : State) : StepOutcome :=
  perform ⟨1, 2, 0⟩ (handleLdIndHlReg .e) s

/-- `LD (HL),H`, 0x74 (R203). -/
def execLdIndHlH (s : State) : StepOutcome :=
  perform ⟨1, 2, 0⟩ (handleLdIndHlReg .h) s

/-- `LD (HL),L`, 0x75 (R203). -/
def execLdIndHlL (s : State) : StepOutcome :=
  perform ⟨1, 2, 0⟩ (handleLdIndHlReg .l) s

/-- `LD (HL),A`, 0x77 (R203). -/
def execLdIndHlA (s : State) : StepOutcome :=
  perform ⟨1, 2, 0⟩ (handleLdIndHlReg .a) s

/-- `LD A,B`, 0x78 (R200). -/
def execLdAB (s : State) : StepOutcome :=
  perform ⟨1, 1, 0⟩ (handleLdRegReg .a .b) s

/-- `LD A,C`, 0x79 (R200). -/
def execLdAC (s : State) : StepOutcome :=
  perform ⟨1, 1, 0⟩ (handleLdRegReg .a .c) s

/-- `LD A,D`, 0x7A (R200). -/
def execLdAD (s : State) : StepOutcome :=
  perform ⟨1, 1, 0⟩ (handleLdRegReg .a .d) s

/-- `LD A,E`, 0x7B (R200). -/
def execLdAE (s : State) : StepOutcome :=
  perform ⟨1, 1, 0⟩ (handleLdRegReg .a .e) s

/-- `LD A,H`, 0x7C (R200). -/
def execLdAH (s : State) : StepOutcome :=
  perform ⟨1, 1, 0⟩ (handleLdRegReg .a .h) s

/-- `LD A,L`, 0x7D (R200). -/
def execLdAL (s : State) : StepOutcome :=
  perform ⟨1, 1, 0⟩ (handleLdRegReg .a .l) s

/-- `LD A,(HL)`, 0x7E (R202). -/
def execLdAIndHl (s : State) : StepOutcome :=
  perform ⟨1, 2, 0⟩ (handleLdRegIndHl .a) s

/-- `LD A,A`, 0x7F (R200). -/
def execLdAA (s : State) : StepOutcome :=
  perform ⟨1, 1, 0⟩ (handleLdRegReg .a .a) s

/-- `LDH (a8),A`, 0xE0 (R212). -/
def execLdhIndA8A (n : Byte) (s : State) : StepOutcome :=
  perform ⟨2, 3, 0⟩ (handleStoreA (highPage n)) s

/-- `LD (C),A`, 0xE2 (R214). -/
def execLdIndCA (s : State) : StepOutcome :=
  perform ⟨1, 2, 0⟩ (handleStoreA (highPage s.c)) s

/-- `LD (a16),A`, 0xEA (R210). -/
def execLdIndA16A (a : Word) (s : State) : StepOutcome :=
  perform ⟨3, 4, 0⟩ (handleStoreA a) s

/-- `LDH A,(a8)`, 0xF0 (R211). -/
def execLdhAIndA8 (n : Byte) (s : State) : StepOutcome :=
  perform ⟨2, 3, 0⟩ (handleLoadA (highPage n)) s

/-- `LD A,(C)`, 0xF2 (R213). -/
def execLdAIndC (s : State) : StepOutcome :=
  perform ⟨1, 2, 0⟩ (handleLoadA (highPage s.c)) s

/-- `LD A,(a16)`, 0xFA (R209). -/
def execLdAIndA16 (a : Word) (s : State) : StepOutcome :=
  perform ⟨3, 4, 0⟩ (handleLoadA a) s

end Sys2Proof.Machine
end

