-- ==== Sys2Proof/Machine/RotateShiftBit.lean ====
section
/-! DEFINITION. The accumulator rotates and the extended space (45_rotate_shift_bit.md, R300 to R315). All return `None`. -/

namespace Sys2Proof.Machine

/-- R300 to R303: the rotate of the same name applied to A, with Z written 0. -/
def handleRotateA (op : ShiftOp) : Handler := fun s =>
  let (r, cy) := shiftApply op s.a s.flagCy
  .ok (.none, (s.setReg8 .a r).setFlags false false false cy)

/-- R304 to R312: one read, then one write of the same operand. -/
def handleShift (op : ShiftOp) (o : Operand8) : Handler := fun s => do
  let (v, s) ← readOperand8 o s
  let (r, cy) := shiftApply op v s.flagCy
  let s ← writeOperand8 o r s
  return (.none, s.setFlags (decide (r = 0)) false false cy)

/-- R313: the operand is not written, nor is CY. -/
def handleBit (b : BitIndex) (o : Operand8) : Handler := fun s => do
  let (v, s) ← readOperand8 o s
  return (.none, s.setFlagsZNH (!v.getLsbD (bitNumber b)) false true)

/-- R314: the operand is written back even when unchanged. -/
def handleRes (b : BitIndex) (o : Operand8) : Handler := fun s => do
  let (v, s) ← readOperand8 o s
  let s ← writeOperand8 o (clearBit b v) s
  return (.none, s)

/-- R315: the operand is written back even when unchanged. -/
def handleSet (b : BitIndex) (o : Operand8) : Handler := fun s => do
  let (v, s) ← readOperand8 o s
  let s ← writeOperand8 o (setBit b v) s
  return (.none, s)

/-! ### The meanings: one per row of the opcode table, ⟨length, base, extra⟩ as the row gives them -/

/-- `RLCA`, 0x07 (R300). -/
def execRlca (s : State) : StepOutcome :=
  perform ⟨1, 1, 0⟩ (handleRotateA .rlc) s

/-- `RRCA`, 0x0F (R301). -/
def execRrca (s : State) : StepOutcome :=
  perform ⟨1, 1, 0⟩ (handleRotateA .rrc) s

/-- `RLA`, 0x17 (R302). -/
def execRla (s : State) : StepOutcome :=
  perform ⟨1, 1, 0⟩ (handleRotateA .rl) s

/-- `RRA`, 0x1F (R303). -/
def execRra (s : State) : StepOutcome :=
  perform ⟨1, 1, 0⟩ (handleRotateA .rr) s

/-- `RLC B`, 0xCB 0x00 (R305). -/
def execRlcB (s : State) : StepOutcome :=
  perform ⟨2, 2, 0⟩ (handleShift .rlc (.reg .b)) s

/-- `RLC C`, 0xCB 0x01 (R305). -/
def execRlcC (s : State) : StepOutcome :=
  perform ⟨2, 2, 0⟩ (handleShift .rlc (.reg .c)) s

/-- `RLC D`, 0xCB 0x02 (R305). -/
def execRlcD (s : State) : StepOutcome :=
  perform ⟨2, 2, 0⟩ (handleShift .rlc (.reg .d)) s

/-- `RLC E`, 0xCB 0x03 (R305). -/
def execRlcE (s : State) : StepOutcome :=
  perform ⟨2, 2, 0⟩ (handleShift .rlc (.reg .e)) s

/-- `RLC H`, 0xCB 0x04 (R305). -/
def execRlcH (s : State) : StepOutcome :=
  perform ⟨2, 2, 0⟩ (handleShift .rlc (.reg .h)) s

/-- `RLC L`, 0xCB 0x05 (R305). -/
def execRlcL (s : State) : StepOutcome :=
  perform ⟨2, 2, 0⟩ (handleShift .rlc (.reg .l)) s

/-- `RLC (HL)`, 0xCB 0x06 (R305). -/
def execRlcIndHl (s : State) : StepOutcome :=
  perform ⟨2, 4, 0⟩ (handleShift .rlc .indHl) s

/-- `RLC A`, 0xCB 0x07 (R305). -/
def execRlcA (s : State) : StepOutcome :=
  perform ⟨2, 2, 0⟩ (handleShift .rlc (.reg .a)) s

/-- `RRC B`, 0xCB 0x08 (R306). -/
def execRrcB (s : State) : StepOutcome :=
  perform ⟨2, 2, 0⟩ (handleShift .rrc (.reg .b)) s

/-- `RRC C`, 0xCB 0x09 (R306). -/
def execRrcC (s : State) : StepOutcome :=
  perform ⟨2, 2, 0⟩ (handleShift .rrc (.reg .c)) s

/-- `RRC D`, 0xCB 0x0A (R306). -/
def execRrcD (s : State) : StepOutcome :=
  perform ⟨2, 2, 0⟩ (handleShift .rrc (.reg .d)) s

/-- `RRC E`, 0xCB 0x0B (R306). -/
def execRrcE (s : State) : StepOutcome :=
  perform ⟨2, 2, 0⟩ (handleShift .rrc (.reg .e)) s

/-- `RRC H`, 0xCB 0x0C (R306). -/
def execRrcH (s : State) : StepOutcome :=
  perform ⟨2, 2, 0⟩ (handleShift .rrc (.reg .h)) s

/-- `RRC L`, 0xCB 0x0D (R306). -/
def execRrcL (s : State) : StepOutcome :=
  perform ⟨2, 2, 0⟩ (handleShift .rrc (.reg .l)) s

/-- `RRC (HL)`, 0xCB 0x0E (R306). -/
def execRrcIndHl (s : State) : StepOutcome :=
  perform ⟨2, 4, 0⟩ (handleShift .rrc .indHl) s

/-- `RRC A`, 0xCB 0x0F (R306). -/
def execRrcA (s : State) : StepOutcome :=
  perform ⟨2, 2, 0⟩ (handleShift .rrc (.reg .a)) s

/-- `RL B`, 0xCB 0x10 (R307). -/
def execRlB (s : State) : StepOutcome :=
  perform ⟨2, 2, 0⟩ (handleShift .rl (.reg .b)) s

/-- `RL C`, 0xCB 0x11 (R307). -/
def execRlC (s : State) : StepOutcome :=
  perform ⟨2, 2, 0⟩ (handleShift .rl (.reg .c)) s

/-- `RL D`, 0xCB 0x12 (R307). -/
def execRlD (s : State) : StepOutcome :=
  perform ⟨2, 2, 0⟩ (handleShift .rl (.reg .d)) s

/-- `RL E`, 0xCB 0x13 (R307). -/
def execRlE (s : State) : StepOutcome :=
  perform ⟨2, 2, 0⟩ (handleShift .rl (.reg .e)) s

/-- `RL H`, 0xCB 0x14 (R307). -/
def execRlH (s : State) : StepOutcome :=
  perform ⟨2, 2, 0⟩ (handleShift .rl (.reg .h)) s

/-- `RL L`, 0xCB 0x15 (R307). -/
def execRlL (s : State) : StepOutcome :=
  perform ⟨2, 2, 0⟩ (handleShift .rl (.reg .l)) s

/-- `RL (HL)`, 0xCB 0x16 (R307). -/
def execRlIndHl (s : State) : StepOutcome :=
  perform ⟨2, 4, 0⟩ (handleShift .rl .indHl) s

/-- `RL A`, 0xCB 0x17 (R307). -/
def execRlA (s : State) : StepOutcome :=
  perform ⟨2, 2, 0⟩ (handleShift .rl (.reg .a)) s

/-- `RR B`, 0xCB 0x18 (R308). -/
def execRrB (s : State) : StepOutcome :=
  perform ⟨2, 2, 0⟩ (handleShift .rr (.reg .b)) s

/-- `RR C`, 0xCB 0x19 (R308). -/
def execRrC (s : State) : StepOutcome :=
  perform ⟨2, 2, 0⟩ (handleShift .rr (.reg .c)) s

/-- `RR D`, 0xCB 0x1A (R308). -/
def execRrD (s : State) : StepOutcome :=
  perform ⟨2, 2, 0⟩ (handleShift .rr (.reg .d)) s

/-- `RR E`, 0xCB 0x1B (R308). -/
def execRrE (s : State) : StepOutcome :=
  perform ⟨2, 2, 0⟩ (handleShift .rr (.reg .e)) s

/-- `RR H`, 0xCB 0x1C (R308). -/
def execRrH (s : State) : StepOutcome :=
  perform ⟨2, 2, 0⟩ (handleShift .rr (.reg .h)) s

/-- `RR L`, 0xCB 0x1D (R308). -/
def execRrL (s : State) : StepOutcome :=
  perform ⟨2, 2, 0⟩ (handleShift .rr (.reg .l)) s

/-- `RR (HL)`, 0xCB 0x1E (R308). -/
def execRrIndHl (s : State) : StepOutcome :=
  perform ⟨2, 4, 0⟩ (handleShift .rr .indHl) s

/-- `RR A`, 0xCB 0x1F (R308). -/
def execRrA (s : State) : StepOutcome :=
  perform ⟨2, 2, 0⟩ (handleShift .rr (.reg .a)) s

/-- `SLA B`, 0xCB 0x20 (R309). -/
def execSlaB (s : State) : StepOutcome :=
  perform ⟨2, 2, 0⟩ (handleShift .sla (.reg .b)) s

/-- `SLA C`, 0xCB 0x21 (R309). -/
def execSlaC (s : State) : StepOutcome :=
  perform ⟨2, 2, 0⟩ (handleShift .sla (.reg .c)) s

/-- `SLA D`, 0xCB 0x22 (R309). -/
def execSlaD (s : State) : StepOutcome :=
  perform ⟨2, 2, 0⟩ (handleShift .sla (.reg .d)) s

/-- `SLA E`, 0xCB 0x23 (R309). -/
def execSlaE (s : State) : StepOutcome :=
  perform ⟨2, 2, 0⟩ (handleShift .sla (.reg .e)) s

/-- `SLA H`, 0xCB 0x24 (R309). -/
def execSlaH (s : State) : StepOutcome :=
  perform ⟨2, 2, 0⟩ (handleShift .sla (.reg .h)) s

/-- `SLA L`, 0xCB 0x25 (R309). -/
def execSlaL (s : State) : StepOutcome :=
  perform ⟨2, 2, 0⟩ (handleShift .sla (.reg .l)) s

/-- `SLA (HL)`, 0xCB 0x26 (R309). -/
def execSlaIndHl (s : State) : StepOutcome :=
  perform ⟨2, 4, 0⟩ (handleShift .sla .indHl) s

/-- `SLA A`, 0xCB 0x27 (R309). -/
def execSlaA (s : State) : StepOutcome :=
  perform ⟨2, 2, 0⟩ (handleShift .sla (.reg .a)) s

/-- `SRA B`, 0xCB 0x28 (R310). -/
def execSraB (s : State) : StepOutcome :=
  perform ⟨2, 2, 0⟩ (handleShift .sra (.reg .b)) s

/-- `SRA C`, 0xCB 0x29 (R310). -/
def execSraC (s : State) : StepOutcome :=
  perform ⟨2, 2, 0⟩ (handleShift .sra (.reg .c)) s

/-- `SRA D`, 0xCB 0x2A (R310). -/
def execSraD (s : State) : StepOutcome :=
  perform ⟨2, 2, 0⟩ (handleShift .sra (.reg .d)) s

/-- `SRA E`, 0xCB 0x2B (R310). -/
def execSraE (s : State) : StepOutcome :=
  perform ⟨2, 2, 0⟩ (handleShift .sra (.reg .e)) s

/-- `SRA H`, 0xCB 0x2C (R310). -/
def execSraH (s : State) : StepOutcome :=
  perform ⟨2, 2, 0⟩ (handleShift .sra (.reg .h)) s

/-- `SRA L`, 0xCB 0x2D (R310). -/
def execSraL (s : State) : StepOutcome :=
  perform ⟨2, 2, 0⟩ (handleShift .sra (.reg .l)) s

/-- `SRA (HL)`, 0xCB 0x2E (R310). -/
def execSraIndHl (s : State) : StepOutcome :=
  perform ⟨2, 4, 0⟩ (handleShift .sra .indHl) s

/-- `SRA A`, 0xCB 0x2F (R310). -/
def execSraA (s : State) : StepOutcome :=
  perform ⟨2, 2, 0⟩ (handleShift .sra (.reg .a)) s

/-- `SWAP B`, 0xCB 0x30 (R311). -/
def execSwapB (s : State) : StepOutcome :=
  perform ⟨2, 2, 0⟩ (handleShift .swap (.reg .b)) s

/-- `SWAP C`, 0xCB 0x31 (R311). -/
def execSwapC (s : State) : StepOutcome :=
  perform ⟨2, 2, 0⟩ (handleShift .swap (.reg .c)) s

/-- `SWAP D`, 0xCB 0x32 (R311). -/
def execSwapD (s : State) : StepOutcome :=
  perform ⟨2, 2, 0⟩ (handleShift .swap (.reg .d)) s

/-- `SWAP E`, 0xCB 0x33 (R311). -/
def execSwapE (s : State) : StepOutcome :=
  perform ⟨2, 2, 0⟩ (handleShift .swap (.reg .e)) s

/-- `SWAP H`, 0xCB 0x34 (R311). -/
def execSwapH (s : State) : StepOutcome :=
  perform ⟨2, 2, 0⟩ (handleShift .swap (.reg .h)) s

/-- `SWAP L`, 0xCB 0x35 (R311). -/
def execSwapL (s : State) : StepOutcome :=
  perform ⟨2, 2, 0⟩ (handleShift .swap (.reg .l)) s

/-- `SWAP (HL)`, 0xCB 0x36 (R311). -/
def execSwapIndHl (s : State) : StepOutcome :=
  perform ⟨2, 4, 0⟩ (handleShift .swap .indHl) s

/-- `SWAP A`, 0xCB 0x37 (R311). -/
def execSwapA (s : State) : StepOutcome :=
  perform ⟨2, 2, 0⟩ (handleShift .swap (.reg .a)) s

/-- `SRL B`, 0xCB 0x38 (R312). -/
def execSrlB (s : State) : StepOutcome :=
  perform ⟨2, 2, 0⟩ (handleShift .srl (.reg .b)) s

/-- `SRL C`, 0xCB 0x39 (R312). -/
def execSrlC (s : State) : StepOutcome :=
  perform ⟨2, 2, 0⟩ (handleShift .srl (.reg .c)) s

/-- `SRL D`, 0xCB 0x3A (R312). -/
def execSrlD (s : State) : StepOutcome :=
  perform ⟨2, 2, 0⟩ (handleShift .srl (.reg .d)) s

/-- `SRL E`, 0xCB 0x3B (R312). -/
def execSrlE (s : State) : StepOutcome :=
  perform ⟨2, 2, 0⟩ (handleShift .srl (.reg .e)) s

/-- `SRL H`, 0xCB 0x3C (R312). -/
def execSrlH (s : State) : StepOutcome :=
  perform ⟨2, 2, 0⟩ (handleShift .srl (.reg .h)) s

/-- `SRL L`, 0xCB 0x3D (R312). -/
def execSrlL (s : State) : StepOutcome :=
  perform ⟨2, 2, 0⟩ (handleShift .srl (.reg .l)) s

/-- `SRL (HL)`, 0xCB 0x3E (R312). -/
def execSrlIndHl (s : State) : StepOutcome :=
  perform ⟨2, 4, 0⟩ (handleShift .srl .indHl) s

/-- `SRL A`, 0xCB 0x3F (R312). -/
def execSrlA (s : State) : StepOutcome :=
  perform ⟨2, 2, 0⟩ (handleShift .srl (.reg .a)) s

/-- `BIT 0,B`, 0xCB 0x40 (R313). -/
def execBit0B (s : State) : StepOutcome :=
  perform ⟨2, 2, 0⟩ (handleBit .b0 (.reg .b)) s

/-- `BIT 0,C`, 0xCB 0x41 (R313). -/
def execBit0C (s : State) : StepOutcome :=
  perform ⟨2, 2, 0⟩ (handleBit .b0 (.reg .c)) s

/-- `BIT 0,D`, 0xCB 0x42 (R313). -/
def execBit0D (s : State) : StepOutcome :=
  perform ⟨2, 2, 0⟩ (handleBit .b0 (.reg .d)) s

/-- `BIT 0,E`, 0xCB 0x43 (R313). -/
def execBit0E (s : State) : StepOutcome :=
  perform ⟨2, 2, 0⟩ (handleBit .b0 (.reg .e)) s

/-- `BIT 0,H`, 0xCB 0x44 (R313). -/
def execBit0H (s : State) : StepOutcome :=
  perform ⟨2, 2, 0⟩ (handleBit .b0 (.reg .h)) s

/-- `BIT 0,L`, 0xCB 0x45 (R313). -/
def execBit0L (s : State) : StepOutcome :=
  perform ⟨2, 2, 0⟩ (handleBit .b0 (.reg .l)) s

/-- `BIT 0,(HL)`, 0xCB 0x46 (R313). -/
def execBit0IndHl (s : State) : StepOutcome :=
  perform ⟨2, 3, 0⟩ (handleBit .b0 .indHl) s

/-- `BIT 0,A`, 0xCB 0x47 (R313). -/
def execBit0A (s : State) : StepOutcome :=
  perform ⟨2, 2, 0⟩ (handleBit .b0 (.reg .a)) s

/-- `BIT 1,B`, 0xCB 0x48 (R313). -/
def execBit1B (s : State) : StepOutcome :=
  perform ⟨2, 2, 0⟩ (handleBit .b1 (.reg .b)) s

/-- `BIT 1,C`, 0xCB 0x49 (R313). -/
def execBit1C (s : State) : StepOutcome :=
  perform ⟨2, 2, 0⟩ (handleBit .b1 (.reg .c)) s

/-- `BIT 1,D`, 0xCB 0x4A (R313). -/
def execBit1D (s : State) : StepOutcome :=
  perform ⟨2, 2, 0⟩ (handleBit .b1 (.reg .d)) s

/-- `BIT 1,E`, 0xCB 0x4B (R313). -/
def execBit1E (s : State) : StepOutcome :=
  perform ⟨2, 2, 0⟩ (handleBit .b1 (.reg .e)) s

/-- `BIT 1,H`, 0xCB 0x4C (R313). -/
def execBit1H (s : State) : StepOutcome :=
  perform ⟨2, 2, 0⟩ (handleBit .b1 (.reg .h)) s

/-- `BIT 1,L`, 0xCB 0x4D (R313). -/
def execBit1L (s : State) : StepOutcome :=
  perform ⟨2, 2, 0⟩ (handleBit .b1 (.reg .l)) s

/-- `BIT 1,(HL)`, 0xCB 0x4E (R313). -/
def execBit1IndHl (s : State) : StepOutcome :=
  perform ⟨2, 3, 0⟩ (handleBit .b1 .indHl) s

/-- `BIT 1,A`, 0xCB 0x4F (R313). -/
def execBit1A (s : State) : StepOutcome :=
  perform ⟨2, 2, 0⟩ (handleBit .b1 (.reg .a)) s

/-- `BIT 2,B`, 0xCB 0x50 (R313). -/
def execBit2B (s : State) : StepOutcome :=
  perform ⟨2, 2, 0⟩ (handleBit .b2 (.reg .b)) s

/-- `BIT 2,C`, 0xCB 0x51 (R313). -/
def execBit2C (s : State) : StepOutcome :=
  perform ⟨2, 2, 0⟩ (handleBit .b2 (.reg .c)) s

/-- `BIT 2,D`, 0xCB 0x52 (R313). -/
def execBit2D (s : State) : StepOutcome :=
  perform ⟨2, 2, 0⟩ (handleBit .b2 (.reg .d)) s

/-- `BIT 2,E`, 0xCB 0x53 (R313). -/
def execBit2E (s : State) : StepOutcome :=
  perform ⟨2, 2, 0⟩ (handleBit .b2 (.reg .e)) s

/-- `BIT 2,H`, 0xCB 0x54 (R313). -/
def execBit2H (s : State) : StepOutcome :=
  perform ⟨2, 2, 0⟩ (handleBit .b2 (.reg .h)) s

/-- `BIT 2,L`, 0xCB 0x55 (R313). -/
def execBit2L (s : State) : StepOutcome :=
  perform ⟨2, 2, 0⟩ (handleBit .b2 (.reg .l)) s

/-- `BIT 2,(HL)`, 0xCB 0x56 (R313). -/
def execBit2IndHl (s : State) : StepOutcome :=
  perform ⟨2, 3, 0⟩ (handleBit .b2 .indHl) s

/-- `BIT 2,A`, 0xCB 0x57 (R313). -/
def execBit2A (s : State) : StepOutcome :=
  perform ⟨2, 2, 0⟩ (handleBit .b2 (.reg .a)) s

/-- `BIT 3,B`, 0xCB 0x58 (R313). -/
def execBit3B (s : State) : StepOutcome :=
  perform ⟨2, 2, 0⟩ (handleBit .b3 (.reg .b)) s

/-- `BIT 3,C`, 0xCB 0x59 (R313). -/
def execBit3C (s : State) : StepOutcome :=
  perform ⟨2, 2, 0⟩ (handleBit .b3 (.reg .c)) s

/-- `BIT 3,D`, 0xCB 0x5A (R313). -/
def execBit3D (s : State) : StepOutcome :=
  perform ⟨2, 2, 0⟩ (handleBit .b3 (.reg .d)) s

/-- `BIT 3,E`, 0xCB 0x5B (R313). -/
def execBit3E (s : State) : StepOutcome :=
  perform ⟨2, 2, 0⟩ (handleBit .b3 (.reg .e)) s

/-- `BIT 3,H`, 0xCB 0x5C (R313). -/
def execBit3H (s : State) : StepOutcome :=
  perform ⟨2, 2, 0⟩ (handleBit .b3 (.reg .h)) s

/-- `BIT 3,L`, 0xCB 0x5D (R313). -/
def execBit3L (s : State) : StepOutcome :=
  perform ⟨2, 2, 0⟩ (handleBit .b3 (.reg .l)) s

/-- `BIT 3,(HL)`, 0xCB 0x5E (R313). -/
def execBit3IndHl (s : State) : StepOutcome :=
  perform ⟨2, 3, 0⟩ (handleBit .b3 .indHl) s

/-- `BIT 3,A`, 0xCB 0x5F (R313). -/
def execBit3A (s : State) : StepOutcome :=
  perform ⟨2, 2, 0⟩ (handleBit .b3 (.reg .a)) s

/-- `BIT 4,B`, 0xCB 0x60 (R313). -/
def execBit4B (s : State) : StepOutcome :=
  perform ⟨2, 2, 0⟩ (handleBit .b4 (.reg .b)) s

/-- `BIT 4,C`, 0xCB 0x61 (R313). -/
def execBit4C (s : State) : StepOutcome :=
  perform ⟨2, 2, 0⟩ (handleBit .b4 (.reg .c)) s

/-- `BIT 4,D`, 0xCB 0x62 (R313). -/
def execBit4D (s : State) : StepOutcome :=
  perform ⟨2, 2, 0⟩ (handleBit .b4 (.reg .d)) s

/-- `BIT 4,E`, 0xCB 0x63 (R313). -/
def execBit4E (s : State) : StepOutcome :=
  perform ⟨2, 2, 0⟩ (handleBit .b4 (.reg .e)) s

/-- `BIT 4,H`, 0xCB 0x64 (R313). -/
def execBit4H (s : State) : StepOutcome :=
  perform ⟨2, 2, 0⟩ (handleBit .b4 (.reg .h)) s

/-- `BIT 4,L`, 0xCB 0x65 (R313). -/
def execBit4L (s : State) : StepOutcome :=
  perform ⟨2, 2, 0⟩ (handleBit .b4 (.reg .l)) s

/-- `BIT 4,(HL)`, 0xCB 0x66 (R313). -/
def execBit4IndHl (s : State) : StepOutcome :=
  perform ⟨2, 3, 0⟩ (handleBit .b4 .indHl) s

/-- `BIT 4,A`, 0xCB 0x67 (R313). -/
def execBit4A (s : State) : StepOutcome :=
  perform ⟨2, 2, 0⟩ (handleBit .b4 (.reg .a)) s

/-- `BIT 5,B`, 0xCB 0x68 (R313). -/
def execBit5B (s : State) : StepOutcome :=
  perform ⟨2, 2, 0⟩ (handleBit .b5 (.reg .b)) s

/-- `BIT 5,C`, 0xCB 0x69 (R313). -/
def execBit5C (s : State) : StepOutcome :=
  perform ⟨2, 2, 0⟩ (handleBit .b5 (.reg .c)) s

/-- `BIT 5,D`, 0xCB 0x6A (R313). -/
def execBit5D (s : State) : StepOutcome :=
  perform ⟨2, 2, 0⟩ (handleBit .b5 (.reg .d)) s

/-- `BIT 5,E`, 0xCB 0x6B (R313). -/
def execBit5E (s : State) : StepOutcome :=
  perform ⟨2, 2, 0⟩ (handleBit .b5 (.reg .e)) s

/-- `BIT 5,H`, 0xCB 0x6C (R313). -/
def execBit5H (s : State) : StepOutcome :=
  perform ⟨2, 2, 0⟩ (handleBit .b5 (.reg .h)) s

/-- `BIT 5,L`, 0xCB 0x6D (R313). -/
def execBit5L (s : State) : StepOutcome :=
  perform ⟨2, 2, 0⟩ (handleBit .b5 (.reg .l)) s

/-- `BIT 5,(HL)`, 0xCB 0x6E (R313). -/
def execBit5IndHl (s : State) : StepOutcome :=
  perform ⟨2, 3, 0⟩ (handleBit .b5 .indHl) s

/-- `BIT 5,A`, 0xCB 0x6F (R313). -/
def execBit5A (s : State) : StepOutcome :=
  perform ⟨2, 2, 0⟩ (handleBit .b5 (.reg .a)) s

/-- `BIT 6,B`, 0xCB 0x70 (R313). -/
def execBit6B (s : State) : StepOutcome :=
  perform ⟨2, 2, 0⟩ (handleBit .b6 (.reg .b)) s

/-- `BIT 6,C`, 0xCB 0x71 (R313). -/
def execBit6C (s : State) : StepOutcome :=
  perform ⟨2, 2, 0⟩ (handleBit .b6 (.reg .c)) s

/-- `BIT 6,D`, 0xCB 0x72 (R313). -/
def execBit6D (s : State) : StepOutcome :=
  perform ⟨2, 2, 0⟩ (handleBit .b6 (.reg .d)) s

/-- `BIT 6,E`, 0xCB 0x73 (R313). -/
def execBit6E (s : State) : StepOutcome :=
  perform ⟨2, 2, 0⟩ (handleBit .b6 (.reg .e)) s

/-- `BIT 6,H`, 0xCB 0x74 (R313). -/
def execBit6H (s : State) : StepOutcome :=
  perform ⟨2, 2, 0⟩ (handleBit .b6 (.reg .h)) s

/-- `BIT 6,L`, 0xCB 0x75 (R313). -/
def execBit6L (s : State) : StepOutcome :=
  perform ⟨2, 2, 0⟩ (handleBit .b6 (.reg .l)) s

/-- `BIT 6,(HL)`, 0xCB 0x76 (R313). -/
def execBit6IndHl (s : State) : StepOutcome :=
  perform ⟨2, 3, 0⟩ (handleBit .b6 .indHl) s

/-- `BIT 6,A`, 0xCB 0x77 (R313). -/
def execBit6A (s : State) : StepOutcome :=
  perform ⟨2, 2, 0⟩ (handleBit .b6 (.reg .a)) s

/-- `BIT 7,B`, 0xCB 0x78 (R313). -/
def execBit7B (s : State) : StepOutcome :=
  perform ⟨2, 2, 0⟩ (handleBit .b7 (.reg .b)) s

/-- `BIT 7,C`, 0xCB 0x79 (R313). -/
def execBit7C (s : State) : StepOutcome :=
  perform ⟨2, 2, 0⟩ (handleBit .b7 (.reg .c)) s

/-- `BIT 7,D`, 0xCB 0x7A (R313). -/
def execBit7D (s : State) : StepOutcome :=
  perform ⟨2, 2, 0⟩ (handleBit .b7 (.reg .d)) s

/-- `BIT 7,E`, 0xCB 0x7B (R313). -/
def execBit7E (s : State) : StepOutcome :=
  perform ⟨2, 2, 0⟩ (handleBit .b7 (.reg .e)) s

/-- `BIT 7,H`, 0xCB 0x7C (R313). -/
def execBit7H (s : State) : StepOutcome :=
  perform ⟨2, 2, 0⟩ (handleBit .b7 (.reg .h)) s

/-- `BIT 7,L`, 0xCB 0x7D (R313). -/
def execBit7L (s : State) : StepOutcome :=
  perform ⟨2, 2, 0⟩ (handleBit .b7 (.reg .l)) s

/-- `BIT 7,(HL)`, 0xCB 0x7E (R313). -/
def execBit7IndHl (s : State) : StepOutcome :=
  perform ⟨2, 3, 0⟩ (handleBit .b7 .indHl) s

/-- `BIT 7,A`, 0xCB 0x7F (R313). -/
def execBit7A (s : State) : StepOutcome :=
  perform ⟨2, 2, 0⟩ (handleBit .b7 (.reg .a)) s

/-- `RES 0,B`, 0xCB 0x80 (R314). -/
def execRes0B (s : State) : StepOutcome :=
  perform ⟨2, 2, 0⟩ (handleRes .b0 (.reg .b)) s

/-- `RES 0,C`, 0xCB 0x81 (R314). -/
def execRes0C (s : State) : StepOutcome :=
  perform ⟨2, 2, 0⟩ (handleRes .b0 (.reg .c)) s

/-- `RES 0,D`, 0xCB 0x82 (R314). -/
def execRes0D (s : State) : StepOutcome :=
  perform ⟨2, 2, 0⟩ (handleRes .b0 (.reg .d)) s

/-- `RES 0,E`, 0xCB 0x83 (R314). -/
def execRes0E (s : State) : StepOutcome :=
  perform ⟨2, 2, 0⟩ (handleRes .b0 (.reg .e)) s

/-- `RES 0,H`, 0xCB 0x84 (R314). -/
def execRes0H (s : State) : StepOutcome :=
  perform ⟨2, 2, 0⟩ (handleRes .b0 (.reg .h)) s

/-- `RES 0,L`, 0xCB 0x85 (R314). -/
def execRes0L (s : State) : StepOutcome :=
  perform ⟨2, 2, 0⟩ (handleRes .b0 (.reg .l)) s

/-- `RES 0,(HL)`, 0xCB 0x86 (R314). -/
def execRes0IndHl (s : State) : StepOutcome :=
  perform ⟨2, 4, 0⟩ (handleRes .b0 .indHl) s

/-- `RES 0,A`, 0xCB 0x87 (R314). -/
def execRes0A (s : State) : StepOutcome :=
  perform ⟨2, 2, 0⟩ (handleRes .b0 (.reg .a)) s

/-- `RES 1,B`, 0xCB 0x88 (R314). -/
def execRes1B (s : State) : StepOutcome :=
  perform ⟨2, 2, 0⟩ (handleRes .b1 (.reg .b)) s

/-- `RES 1,C`, 0xCB 0x89 (R314). -/
def execRes1C (s : State) : StepOutcome :=
  perform ⟨2, 2, 0⟩ (handleRes .b1 (.reg .c)) s

/-- `RES 1,D`, 0xCB 0x8A (R314). -/
def execRes1D (s : State) : StepOutcome :=
  perform ⟨2, 2, 0⟩ (handleRes .b1 (.reg .d)) s

/-- `RES 1,E`, 0xCB 0x8B (R314). -/
def execRes1E (s : State) : StepOutcome :=
  perform ⟨2, 2, 0⟩ (handleRes .b1 (.reg .e)) s

/-- `RES 1,H`, 0xCB 0x8C (R314). -/
def execRes1H (s : State) : StepOutcome :=
  perform ⟨2, 2, 0⟩ (handleRes .b1 (.reg .h)) s

/-- `RES 1,L`, 0xCB 0x8D (R314). -/
def execRes1L (s : State) : StepOutcome :=
  perform ⟨2, 2, 0⟩ (handleRes .b1 (.reg .l)) s

/-- `RES 1,(HL)`, 0xCB 0x8E (R314). -/
def execRes1IndHl (s : State) : StepOutcome :=
  perform ⟨2, 4, 0⟩ (handleRes .b1 .indHl) s

/-- `RES 1,A`, 0xCB 0x8F (R314). -/
def execRes1A (s : State) : StepOutcome :=
  perform ⟨2, 2, 0⟩ (handleRes .b1 (.reg .a)) s

/-- `RES 2,B`, 0xCB 0x90 (R314). -/
def execRes2B (s : State) : StepOutcome :=
  perform ⟨2, 2, 0⟩ (handleRes .b2 (.reg .b)) s

/-- `RES 2,C`, 0xCB 0x91 (R314). -/
def execRes2C (s : State) : StepOutcome :=
  perform ⟨2, 2, 0⟩ (handleRes .b2 (.reg .c)) s

/-- `RES 2,D`, 0xCB 0x92 (R314). -/
def execRes2D (s : State) : StepOutcome :=
  perform ⟨2, 2, 0⟩ (handleRes .b2 (.reg .d)) s

/-- `RES 2,E`, 0xCB 0x93 (R314). -/
def execRes2E (s : State) : StepOutcome :=
  perform ⟨2, 2, 0⟩ (handleRes .b2 (.reg .e)) s

/-- `RES 2,H`, 0xCB 0x94 (R314). -/
def execRes2H (s : State) : StepOutcome :=
  perform ⟨2, 2, 0⟩ (handleRes .b2 (.reg .h)) s

/-- `RES 2,L`, 0xCB 0x95 (R314). -/
def execRes2L (s : State) : StepOutcome :=
  perform ⟨2, 2, 0⟩ (handleRes .b2 (.reg .l)) s

/-- `RES 2,(HL)`, 0xCB 0x96 (R314). -/
def execRes2IndHl (s : State) : StepOutcome :=
  perform ⟨2, 4, 0⟩ (handleRes .b2 .indHl) s

/-- `RES 2,A`, 0xCB 0x97 (R314). -/
def execRes2A (s : State) : StepOutcome :=
  perform ⟨2, 2, 0⟩ (handleRes .b2 (.reg .a)) s

/-- `RES 3,B`, 0xCB 0x98 (R314). -/
def execRes3B (s : State) : StepOutcome :=
  perform ⟨2, 2, 0⟩ (handleRes .b3 (.reg .b)) s

/-- `RES 3,C`, 0xCB 0x99 (R314). -/
def execRes3C (s : State) : StepOutcome :=
  perform ⟨2, 2, 0⟩ (handleRes .b3 (.reg .c)) s

/-- `RES 3,D`, 0xCB 0x9A (R314). -/
def execRes3D (s : State) : StepOutcome :=
  perform ⟨2, 2, 0⟩ (handleRes .b3 (.reg .d)) s

/-- `RES 3,E`, 0xCB 0x9B (R314). -/
def execRes3E (s : State) : StepOutcome :=
  perform ⟨2, 2, 0⟩ (handleRes .b3 (.reg .e)) s

/-- `RES 3,H`, 0xCB 0x9C (R314). -/
def execRes3H (s : State) : StepOutcome :=
  perform ⟨2, 2, 0⟩ (handleRes .b3 (.reg .h)) s

/-- `RES 3,L`, 0xCB 0x9D (R314). -/
def execRes3L (s : State) : StepOutcome :=
  perform ⟨2, 2, 0⟩ (handleRes .b3 (.reg .l)) s

/-- `RES 3,(HL)`, 0xCB 0x9E (R314). -/
def execRes3IndHl (s : State) : StepOutcome :=
  perform ⟨2, 4, 0⟩ (handleRes .b3 .indHl) s

/-- `RES 3,A`, 0xCB 0x9F (R314). -/
def execRes3A (s : State) : StepOutcome :=
  perform ⟨2, 2, 0⟩ (handleRes .b3 (.reg .a)) s

/-- `RES 4,B`, 0xCB 0xA0 (R314). -/
def execRes4B (s : State) : StepOutcome :=
  perform ⟨2, 2, 0⟩ (handleRes .b4 (.reg .b)) s

/-- `RES 4,C`, 0xCB 0xA1 (R314). -/
def execRes4C (s : State) : StepOutcome :=
  perform ⟨2, 2, 0⟩ (handleRes .b4 (.reg .c)) s

/-- `RES 4,D`, 0xCB 0xA2 (R314). -/
def execRes4D (s : State) : StepOutcome :=
  perform ⟨2, 2, 0⟩ (handleRes .b4 (.reg .d)) s

/-- `RES 4,E`, 0xCB 0xA3 (R314). -/
def execRes4E (s : State) : StepOutcome :=
  perform ⟨2, 2, 0⟩ (handleRes .b4 (.reg .e)) s

/-- `RES 4,H`, 0xCB 0xA4 (R314). -/
def execRes4H (s : State) : StepOutcome :=
  perform ⟨2, 2, 0⟩ (handleRes .b4 (.reg .h)) s

/-- `RES 4,L`, 0xCB 0xA5 (R314). -/
def execRes4L (s : State) : StepOutcome :=
  perform ⟨2, 2, 0⟩ (handleRes .b4 (.reg .l)) s

/-- `RES 4,(HL)`, 0xCB 0xA6 (R314). -/
def execRes4IndHl (s : State) : StepOutcome :=
  perform ⟨2, 4, 0⟩ (handleRes .b4 .indHl) s

/-- `RES 4,A`, 0xCB 0xA7 (R314). -/
def execRes4A (s : State) : StepOutcome :=
  perform ⟨2, 2, 0⟩ (handleRes .b4 (.reg .a)) s

/-- `RES 5,B`, 0xCB 0xA8 (R314). -/
def execRes5B (s : State) : StepOutcome :=
  perform ⟨2, 2, 0⟩ (handleRes .b5 (.reg .b)) s

/-- `RES 5,C`, 0xCB 0xA9 (R314). -/
def execRes5C (s : State) : StepOutcome :=
  perform ⟨2, 2, 0⟩ (handleRes .b5 (.reg .c)) s

/-- `RES 5,D`, 0xCB 0xAA (R314). -/
def execRes5D (s : State) : StepOutcome :=
  perform ⟨2, 2, 0⟩ (handleRes .b5 (.reg .d)) s

/-- `RES 5,E`, 0xCB 0xAB (R314). -/
def execRes5E (s : State) : StepOutcome :=
  perform ⟨2, 2, 0⟩ (handleRes .b5 (.reg .e)) s

/-- `RES 5,H`, 0xCB 0xAC (R314). -/
def execRes5H (s : State) : StepOutcome :=
  perform ⟨2, 2, 0⟩ (handleRes .b5 (.reg .h)) s

/-- `RES 5,L`, 0xCB 0xAD (R314). -/
def execRes5L (s : State) : StepOutcome :=
  perform ⟨2, 2, 0⟩ (handleRes .b5 (.reg .l)) s

/-- `RES 5,(HL)`, 0xCB 0xAE (R314). -/
def execRes5IndHl (s : State) : StepOutcome :=
  perform ⟨2, 4, 0⟩ (handleRes .b5 .indHl) s

/-- `RES 5,A`, 0xCB 0xAF (R314). -/
def execRes5A (s : State) : StepOutcome :=
  perform ⟨2, 2, 0⟩ (handleRes .b5 (.reg .a)) s

/-- `RES 6,B`, 0xCB 0xB0 (R314). -/
def execRes6B (s : State) : StepOutcome :=
  perform ⟨2, 2, 0⟩ (handleRes .b6 (.reg .b)) s

/-- `RES 6,C`, 0xCB 0xB1 (R314). -/
def execRes6C (s : State) : StepOutcome :=
  perform ⟨2, 2, 0⟩ (handleRes .b6 (.reg .c)) s

/-- `RES 6,D`, 0xCB 0xB2 (R314). -/
def execRes6D (s : State) : StepOutcome :=
  perform ⟨2, 2, 0⟩ (handleRes .b6 (.reg .d)) s

/-- `RES 6,E`, 0xCB 0xB3 (R314). -/
def execRes6E (s : State) : StepOutcome :=
  perform ⟨2, 2, 0⟩ (handleRes .b6 (.reg .e)) s

/-- `RES 6,H`, 0xCB 0xB4 (R314). -/
def execRes6H (s : State) : StepOutcome :=
  perform ⟨2, 2, 0⟩ (handleRes .b6 (.reg .h)) s

/-- `RES 6,L`, 0xCB 0xB5 (R314). -/
def execRes6L (s : State) : StepOutcome :=
  perform ⟨2, 2, 0⟩ (handleRes .b6 (.reg .l)) s

/-- `RES 6,(HL)`, 0xCB 0xB6 (R314). -/
def execRes6IndHl (s : State) : StepOutcome :=
  perform ⟨2, 4, 0⟩ (handleRes .b6 .indHl) s

/-- `RES 6,A`, 0xCB 0xB7 (R314). -/
def execRes6A (s : State) : StepOutcome :=
  perform ⟨2, 2, 0⟩ (handleRes .b6 (.reg .a)) s

/-- `RES 7,B`, 0xCB 0xB8 (R314). -/
def execRes7B (s : State) : StepOutcome :=
  perform ⟨2, 2, 0⟩ (handleRes .b7 (.reg .b)) s

/-- `RES 7,C`, 0xCB 0xB9 (R314). -/
def execRes7C (s : State) : StepOutcome :=
  perform ⟨2, 2, 0⟩ (handleRes .b7 (.reg .c)) s

/-- `RES 7,D`, 0xCB 0xBA (R314). -/
def execRes7D (s : State) : StepOutcome :=
  perform ⟨2, 2, 0⟩ (handleRes .b7 (.reg .d)) s

/-- `RES 7,E`, 0xCB 0xBB (R314). -/
def execRes7E (s : State) : StepOutcome :=
  perform ⟨2, 2, 0⟩ (handleRes .b7 (.reg .e)) s

/-- `RES 7,H`, 0xCB 0xBC (R314). -/
def execRes7H (s : State) : StepOutcome :=
  perform ⟨2, 2, 0⟩ (handleRes .b7 (.reg .h)) s

/-- `RES 7,L`, 0xCB 0xBD (R314). -/
def execRes7L (s : State) : StepOutcome :=
  perform ⟨2, 2, 0⟩ (handleRes .b7 (.reg .l)) s

/-- `RES 7,(HL)`, 0xCB 0xBE (R314). -/
def execRes7IndHl (s : State) : StepOutcome :=
  perform ⟨2, 4, 0⟩ (handleRes .b7 .indHl) s

/-- `RES 7,A`, 0xCB 0xBF (R314). -/
def execRes7A (s : State) : StepOutcome :=
  perform ⟨2, 2, 0⟩ (handleRes .b7 (.reg .a)) s

/-- `SET 0,B`, 0xCB 0xC0 (R315). -/
def execSet0B (s : State) : StepOutcome :=
  perform ⟨2, 2, 0⟩ (handleSet .b0 (.reg .b)) s

/-- `SET 0,C`, 0xCB 0xC1 (R315). -/
def execSet0C (s : State) : StepOutcome :=
  perform ⟨2, 2, 0⟩ (handleSet .b0 (.reg .c)) s

/-- `SET 0,D`, 0xCB 0xC2 (R315). -/
def execSet0D (s : State) : StepOutcome :=
  perform ⟨2, 2, 0⟩ (handleSet .b0 (.reg .d)) s

/-- `SET 0,E`, 0xCB 0xC3 (R315). -/
def execSet0E (s : State) : StepOutcome :=
  perform ⟨2, 2, 0⟩ (handleSet .b0 (.reg .e)) s

/-- `SET 0,H`, 0xCB 0xC4 (R315). -/
def execSet0H (s : State) : StepOutcome :=
  perform ⟨2, 2, 0⟩ (handleSet .b0 (.reg .h)) s

/-- `SET 0,L`, 0xCB 0xC5 (R315). -/
def execSet0L (s : State) : StepOutcome :=
  perform ⟨2, 2, 0⟩ (handleSet .b0 (.reg .l)) s

/-- `SET 0,(HL)`, 0xCB 0xC6 (R315). -/
def execSet0IndHl (s : State) : StepOutcome :=
  perform ⟨2, 4, 0⟩ (handleSet .b0 .indHl) s

/-- `SET 0,A`, 0xCB 0xC7 (R315). -/
def execSet0A (s : State) : StepOutcome :=
  perform ⟨2, 2, 0⟩ (handleSet .b0 (.reg .a)) s

/-- `SET 1,B`, 0xCB 0xC8 (R315). -/
def execSet1B (s : State) : StepOutcome :=
  perform ⟨2, 2, 0⟩ (handleSet .b1 (.reg .b)) s

/-- `SET 1,C`, 0xCB 0xC9 (R315). -/
def execSet1C (s : State) : StepOutcome :=
  perform ⟨2, 2, 0⟩ (handleSet .b1 (.reg .c)) s

/-- `SET 1,D`, 0xCB 0xCA (R315). -/
def execSet1D (s : State) : StepOutcome :=
  perform ⟨2, 2, 0⟩ (handleSet .b1 (.reg .d)) s

/-- `SET 1,E`, 0xCB 0xCB (R315). -/
def execSet1E (s : State) : StepOutcome :=
  perform ⟨2, 2, 0⟩ (handleSet .b1 (.reg .e)) s

/-- `SET 1,H`, 0xCB 0xCC (R315). -/
def execSet1H (s : State) : StepOutcome :=
  perform ⟨2, 2, 0⟩ (handleSet .b1 (.reg .h)) s

/-- `SET 1,L`, 0xCB 0xCD (R315). -/
def execSet1L (s : State) : StepOutcome :=
  perform ⟨2, 2, 0⟩ (handleSet .b1 (.reg .l)) s

/-- `SET 1,(HL)`, 0xCB 0xCE (R315). -/
def execSet1IndHl (s : State) : StepOutcome :=
  perform ⟨2, 4, 0⟩ (handleSet .b1 .indHl) s

/-- `SET 1,A`, 0xCB 0xCF (R315). -/
def execSet1A (s : State) : StepOutcome :=
  perform ⟨2, 2, 0⟩ (handleSet .b1 (.reg .a)) s

/-- `SET 2,B`, 0xCB 0xD0 (R315). -/
def execSet2B (s : State) : StepOutcome :=
  perform ⟨2, 2, 0⟩ (handleSet .b2 (.reg .b)) s

/-- `SET 2,C`, 0xCB 0xD1 (R315). -/
def execSet2C (s : State) : StepOutcome :=
  perform ⟨2, 2, 0⟩ (handleSet .b2 (.reg .c)) s

/-- `SET 2,D`, 0xCB 0xD2 (R315). -/
def execSet2D (s : State) : StepOutcome :=
  perform ⟨2, 2, 0⟩ (handleSet .b2 (.reg .d)) s

/-- `SET 2,E`, 0xCB 0xD3 (R315). -/
def execSet2E (s : State) : StepOutcome :=
  perform ⟨2, 2, 0⟩ (handleSet .b2 (.reg .e)) s

/-- `SET 2,H`, 0xCB 0xD4 (R315). -/
def execSet2H (s : State) : StepOutcome :=
  perform ⟨2, 2, 0⟩ (handleSet .b2 (.reg .h)) s

/-- `SET 2,L`, 0xCB 0xD5 (R315). -/
def execSet2L (s : State) : StepOutcome :=
  perform ⟨2, 2, 0⟩ (handleSet .b2 (.reg .l)) s

/-- `SET 2,(HL)`, 0xCB 0xD6 (R315). -/
def execSet2IndHl (s : State) : StepOutcome :=
  perform ⟨2, 4, 0⟩ (handleSet .b2 .indHl) s

/-- `SET 2,A`, 0xCB 0xD7 (R315). -/
def execSet2A (s : State) : StepOutcome :=
  perform ⟨2, 2, 0⟩ (handleSet .b2 (.reg .a)) s

/-- `SET 3,B`, 0xCB 0xD8 (R315). -/
def execSet3B (s : State) : StepOutcome :=
  perform ⟨2, 2, 0⟩ (handleSet .b3 (.reg .b)) s

/-- `SET 3,C`, 0xCB 0xD9 (R315). -/
def execSet3C (s : State) : StepOutcome :=
  perform ⟨2, 2, 0⟩ (handleSet .b3 (.reg .c)) s

/-- `SET 3,D`, 0xCB 0xDA (R315). -/
def execSet3D (s : State) : StepOutcome :=
  perform ⟨2, 2, 0⟩ (handleSet .b3 (.reg .d)) s

/-- `SET 3,E`, 0xCB 0xDB (R315). -/
def execSet3E (s : State) : StepOutcome :=
  perform ⟨2, 2, 0⟩ (handleSet .b3 (.reg .e)) s

/-- `SET 3,H`, 0xCB 0xDC (R315). -/
def execSet3H (s : State) : StepOutcome :=
  perform ⟨2, 2, 0⟩ (handleSet .b3 (.reg .h)) s

/-- `SET 3,L`, 0xCB 0xDD (R315). -/
def execSet3L (s : State) : StepOutcome :=
  perform ⟨2, 2, 0⟩ (handleSet .b3 (.reg .l)) s

/-- `SET 3,(HL)`, 0xCB 0xDE (R315). -/
def execSet3IndHl (s : State) : StepOutcome :=
  perform ⟨2, 4, 0⟩ (handleSet .b3 .indHl) s

/-- `SET 3,A`, 0xCB 0xDF (R315). -/
def execSet3A (s : State) : StepOutcome :=
  perform ⟨2, 2, 0⟩ (handleSet .b3 (.reg .a)) s

/-- `SET 4,B`, 0xCB 0xE0 (R315). -/
def execSet4B (s : State) : StepOutcome :=
  perform ⟨2, 2, 0⟩ (handleSet .b4 (.reg .b)) s

/-- `SET 4,C`, 0xCB 0xE1 (R315). -/
def execSet4C (s : State) : StepOutcome :=
  perform ⟨2, 2, 0⟩ (handleSet .b4 (.reg .c)) s

/-- `SET 4,D`, 0xCB 0xE2 (R315). -/
def execSet4D (s : State) : StepOutcome :=
  perform ⟨2, 2, 0⟩ (handleSet .b4 (.reg .d)) s

/-- `SET 4,E`, 0xCB 0xE3 (R315). -/
def execSet4E (s : State) : StepOutcome :=
  perform ⟨2, 2, 0⟩ (handleSet .b4 (.reg .e)) s

/-- `SET 4,H`, 0xCB 0xE4 (R315). -/
def execSet4H (s : State) : StepOutcome :=
  perform ⟨2, 2, 0⟩ (handleSet .b4 (.reg .h)) s

/-- `SET 4,L`, 0xCB 0xE5 (R315). -/
def execSet4L (s : State) : StepOutcome :=
  perform ⟨2, 2, 0⟩ (handleSet .b4 (.reg .l)) s

/-- `SET 4,(HL)`, 0xCB 0xE6 (R315). -/
def execSet4IndHl (s : State) : StepOutcome :=
  perform ⟨2, 4, 0⟩ (handleSet .b4 .indHl) s

/-- `SET 4,A`, 0xCB 0xE7 (R315). -/
def execSet4A (s : State) : StepOutcome :=
  perform ⟨2, 2, 0⟩ (handleSet .b4 (.reg .a)) s

/-- `SET 5,B`, 0xCB 0xE8 (R315). -/
def execSet5B (s : State) : StepOutcome :=
  perform ⟨2, 2, 0⟩ (handleSet .b5 (.reg .b)) s

/-- `SET 5,C`, 0xCB 0xE9 (R315). -/
def execSet5C (s : State) : StepOutcome :=
  perform ⟨2, 2, 0⟩ (handleSet .b5 (.reg .c)) s

/-- `SET 5,D`, 0xCB 0xEA (R315). -/
def execSet5D (s : State) : StepOutcome :=
  perform ⟨2, 2, 0⟩ (handleSet .b5 (.reg .d)) s

/-- `SET 5,E`, 0xCB 0xEB (R315). -/
def execSet5E (s : State) : StepOutcome :=
  perform ⟨2, 2, 0⟩ (handleSet .b5 (.reg .e)) s

/-- `SET 5,H`, 0xCB 0xEC (R315). -/
def execSet5H (s : State) : StepOutcome :=
  perform ⟨2, 2, 0⟩ (handleSet .b5 (.reg .h)) s

/-- `SET 5,L`, 0xCB 0xED (R315). -/
def execSet5L (s : State) : StepOutcome :=
  perform ⟨2, 2, 0⟩ (handleSet .b5 (.reg .l)) s

/-- `SET 5,(HL)`, 0xCB 0xEE (R315). -/
def execSet5IndHl (s : State) : StepOutcome :=
  perform ⟨2, 4, 0⟩ (handleSet .b5 .indHl) s

/-- `SET 5,A`, 0xCB 0xEF (R315). -/
def execSet5A (s : State) : StepOutcome :=
  perform ⟨2, 2, 0⟩ (handleSet .b5 (.reg .a)) s

/-- `SET 6,B`, 0xCB 0xF0 (R315). -/
def execSet6B (s : State) : StepOutcome :=
  perform ⟨2, 2, 0⟩ (handleSet .b6 (.reg .b)) s

/-- `SET 6,C`, 0xCB 0xF1 (R315). -/
def execSet6C (s : State) : StepOutcome :=
  perform ⟨2, 2, 0⟩ (handleSet .b6 (.reg .c)) s

/-- `SET 6,D`, 0xCB 0xF2 (R315). -/
def execSet6D (s : State) : StepOutcome :=
  perform ⟨2, 2, 0⟩ (handleSet .b6 (.reg .d)) s

/-- `SET 6,E`, 0xCB 0xF3 (R315). -/
def execSet6E (s : State) : StepOutcome :=
  perform ⟨2, 2, 0⟩ (handleSet .b6 (.reg .e)) s

/-- `SET 6,H`, 0xCB 0xF4 (R315). -/
def execSet6H (s : State) : StepOutcome :=
  perform ⟨2, 2, 0⟩ (handleSet .b6 (.reg .h)) s

/-- `SET 6,L`, 0xCB 0xF5 (R315). -/
def execSet6L (s : State) : StepOutcome :=
  perform ⟨2, 2, 0⟩ (handleSet .b6 (.reg .l)) s

/-- `SET 6,(HL)`, 0xCB 0xF6 (R315). -/
def execSet6IndHl (s : State) : StepOutcome :=
  perform ⟨2, 4, 0⟩ (handleSet .b6 .indHl) s

/-- `SET 6,A`, 0xCB 0xF7 (R315). -/
def execSet6A (s : State) : StepOutcome :=
  perform ⟨2, 2, 0⟩ (handleSet .b6 (.reg .a)) s

/-- `SET 7,B`, 0xCB 0xF8 (R315). -/
def execSet7B (s : State) : StepOutcome :=
  perform ⟨2, 2, 0⟩ (handleSet .b7 (.reg .b)) s

/-- `SET 7,C`, 0xCB 0xF9 (R315). -/
def execSet7C (s : State) : StepOutcome :=
  perform ⟨2, 2, 0⟩ (handleSet .b7 (.reg .c)) s

/-- `SET 7,D`, 0xCB 0xFA (R315). -/
def execSet7D (s : State) : StepOutcome :=
  perform ⟨2, 2, 0⟩ (handleSet .b7 (.reg .d)) s

/-- `SET 7,E`, 0xCB 0xFB (R315). -/
def execSet7E (s : State) : StepOutcome :=
  perform ⟨2, 2, 0⟩ (handleSet .b7 (.reg .e)) s

/-- `SET 7,H`, 0xCB 0xFC (R315). -/
def execSet7H (s : State) : StepOutcome :=
  perform ⟨2, 2, 0⟩ (handleSet .b7 (.reg .h)) s

/-- `SET 7,L`, 0xCB 0xFD (R315). -/
def execSet7L (s : State) : StepOutcome :=
  perform ⟨2, 2, 0⟩ (handleSet .b7 (.reg .l)) s

/-- `SET 7,(HL)`, 0xCB 0xFE (R315). -/
def execSet7IndHl (s : State) : StepOutcome :=
  perform ⟨2, 4, 0⟩ (handleSet .b7 .indHl) s

/-- `SET 7,A`, 0xCB 0xFF (R315). -/
def execSet7A (s : State) : StepOutcome :=
  perform ⟨2, 2, 0⟩ (handleSet .b7 (.reg .a)) s

end Sys2Proof.Machine
end

