-- ==== Sys2Proof/Machine/System.lean ====
section
/-! DEFINITION. NOP, HALT, STOP, DI and EI (47_system.md, R360 to R364). All return `None` and write no flag. -/

namespace Sys2Proof.Machine

/-- R360. -/
def handleNop : Handler := fun s => .ok (.none, s)

/-- R361: a no-op under `HALT_MODEL = nop`; refused in the HALT-bug case of R404; otherwise `halted <- 1`. -/
def handleHalt : Handler := fun s =>
  match s.config.haltModel with
  | .nop => .ok (.none, s)
  | .stop =>
    if s.config.interruptModel = .sm83 ∧ s.ime = false ∧ s.pending ≠ 0 then .error (.refused .haltBug)
    else .ok (.none, s.setHalted true)

/-- R362: a no-op under `HALT_MODEL = nop`; otherwise `stopped <- 1`. The second byte is not read. -/
def handleStop : Handler := fun s =>
  match s.config.haltModel with
  | .nop => .ok (.none, s)
  | .stop => .ok (.none, s.setStopped true)

/-- R363. -/
def handleDi : Handler := fun s => .ok (.none, (s.setIme false).setEiDelay false)

/-- R364: IME follows at the end of the next step that executes an instruction (R160 step 7). -/
def handleEi : Handler := fun s => .ok (.none, s.setEiDelay true)

/-! ### The meanings: one per row of the opcode table, ⟨length, base, extra⟩ as the row gives them -/

/-- `NOP`, 0x00 (R360). -/
def execNop (s : State) : StepOutcome :=
  perform ⟨1, 1, 0⟩ handleNop s

/-- `STOP`, 0x10 (R362). -/
def execStop (s : State) : StepOutcome :=
  perform ⟨2, 1, 0⟩ handleStop s

/-- `HALT`, 0x76 (R361). -/
def execHalt (s : State) : StepOutcome :=
  perform ⟨1, 1, 0⟩ handleHalt s

/-- `DI`, 0xF3 (R363). -/
def execDi (s : State) : StepOutcome :=
  perform ⟨1, 1, 0⟩ handleDi s

/-- `EI`, 0xFB (R364). -/
def execEi (s : State) : StepOutcome :=
  perform ⟨1, 1, 0⟩ handleEi s

end Sys2Proof.Machine
end

