-- ==== Sys2Proof/Machine/Fetch.lean ====
section
/-! DEFINITION. Fetch and decode through the bus (R131, R134, R144, steps 2 and 3 of R160), and laying an instruction out
where the next fetch reads it.

The bytes are read one at a time and only as far as the instruction needs them, so the fatal of R72 is raised by the
first unreadable byte (R405) and STOP's second byte is not read (R145). The immediate is read here, before `exec`: no
handler makes an access or a write before its immediate (R144, R405; log 8). -/

namespace Sys2Proof.Machine

/-- Whether a tag has a descriptor under the parameters `POPULATED_PLAIN` and `POPULATED_EXT` (R136, D2). -/
def populated (cfg : Config) (op : Opcode) : Bool :=
  match op with
  | .plain b => (plainEntry b).isSome && !cfg.removedPlain.contains b
  | .extended b => !cfg.removedExt.contains b

/-- `Decode(pc0)` (R131): the tag at an address. -/
def fetchOpcode (pc0 : Word) (s : State) : Res (Opcode × State) := do
  let (b0, s) ← busRead pc0 s
  if b0 = extensionMarker then
    let (b1, s) ← busRead (pc0 + 1) s
    return (.extended b1, s)
  else
    return (.plain b0, s)

/-- Reads the immediate of a plain entry (R144, R145). -/
def fetchOperand (e : Entry) (pc0 : Word) (s : State) : Res (Instr × State) :=
  match e with
  | .op i => .ok (i, s)
  | .ignoredByte i => .ok (i, s)
  | .imm8 f => do
    let (n, s) ← busRead (pc0 + 1) s
    return (f n, s)
  | .imm16 f => do
    let (n, s) ← memRead16 (pc0 + 1) s
    return (f n, s)

/-- The instruction at PC: decode, lookup, immediate. A tag without a descriptor is the fatal of R403. -/
def fetchInstr (s : State) : Res (Instr × State) := do
  let pc0 := s.pc
  let (op, s) ← fetchOpcode pc0 s
  if populated s.config op then
    match op with
    | .extended b => return (extendedInstr b, s)
    | .plain b =>
      match plainEntry b with
      | some e => fetchOperand e pc0 s
      | none => .error (.fault (.lookupMiss op))
  else
    .error (.fault (.lookupMiss op))

/-- `n` consecutive bytes read through the bus from an address, in rising order. -/
def readBytes : (n : Nat) → Word → State → Res (List Byte × State)
  | 0, _, s => .ok ([], s)
  | n + 1, a, s => do
    let (b, s) ← busRead a s
    let (bs, s) ← readBytes n (a + 1) s
    return (b :: bs, s)

/-! ### Placing an instruction where the next fetch reads it -/

/-- The state with one byte placed in the store that owns the address for reads. A read-only store is loaded from outside
the machine; a BIOS is supplied where the boot overlay needs one. The keypad tap, the scanline tap, a drawn LCDC and the
addresses of R77 and R91 hold no byte, so nothing is placed there. -/
def placeByte (a : Word) (v : Byte) (s : State) : State :=
  match regionOf s.config a with
  | .overlay =>
    if s.bootLatch then { s with cart := s.cart.write a.toNat v }
    else { s with bios := some ((s.bios.getD []).write a.toNat v) }
  | .cart => { s with cart := s.cart.write a.toNat v }
  | .vram | .extRam | .wram | .oam | .hram => s.setMem (s.mem.write a.toNat v)
  | .echo => s.setMem (s.mem.write (echoKey s.config a) v)
  | .ifReg => s.setIf v
  | .ieReg => s.setIe v
  | .io =>
    match readTapOf s.config.taps a with
    | .lcdc => s.setGpu { s.gpu with lcdc := v }
    | .scy => s.setGpu { s.gpu with scrollY := v }
    | .scx => s.setGpu { s.gpu with scrollX := v }
    | .raw => s.setMem (s.mem.write a.toNat v)
    | .keypad | .ly => s
  | .unusable | .unmapped => s

/-- The state with consecutive bytes placed from an address. -/
def placeBytes : List Byte → Word → State → State
  | [], _, s => s
  | b :: bs, a, s => placeBytes bs (a + 1) (placeByte a b s)

/-- The state made ready for its next step to fetch: not halted, not stopped, and no interrupt entry due (R411, R420). -/
def readyToFetch (s : State) : State :=
  let s := (s.setHalted false).setStopped false
  if s.config.interruptModel = .sm83 ∧ s.ime = true ∧ s.pending ≠ 0 then s.setIme false else s

end Sys2Proof.Machine
end

