-- ==== Sys2Proof/Machine/Run.lean ====
section
/-! DEFINITION. One instruction step (R160), and the whole step with the interrupt check and the halted test before it
(R411, R420). -/

namespace Sys2Proof.Machine

/-- Step 7 of R160 applied to the outcome of an instruction. -/
def afterExec (promote : Bool) (o : StepOutcome) : StepOutcome :=
  match o with
  | .next t => .next (promoteEi promote t)
  | .fault f => .fault f
  | .refused r => .refused r

/-- R160: fetch and decode, look up, execute, charge, advance, and EI's delayed enable. -/
def runInstruction (s : State) : StepOutcome :=
  match fetchInstr s with
  | .error e => e.toOutcome
  | .ok (i, t) => afterExec s.eiDelay (exec i t)

/-- One step: the interrupt check (R411), then the halted test (R420), then the instruction (R160). The terminal outcome
`Halted` is a next state equal to the state tested (log 4). -/
def stepOnce (s : State) : StepOutcome :=
  match interruptCheck s with
  | .error e => e.toOutcome
  | .ok (true, t) => .next t
  | .ok (false, t) => if t.halted || t.stopped then .next t else runInstruction t

/-- Whether the step of a state returns the terminal outcome `Halted` (R420, R421). -/
def endsHalted (s : State) : Bool :=
  match interruptCheck s with
  | .ok (false, t) => t.halted || t.stopped
  | _ => false

end Sys2Proof.Machine
end

