-- ==== Sys2Proof/Machine/Step.lean ====
section
/-! DEFINITION. The step, and the state that runs a given word next. -/

namespace Sys2Proof.Machine

/-- One step of the block (R8, R160, R411, R420). -/
def step (s : State) : Host.Outcome State Fault Refusal := stepOnce s

/-- The state in which the very next step fetches and runs the instruction of one opcode-table word: its bytes are loaded
at PC and the state is ready to fetch. A program reaches the machine so: the launch supplies the cartridge (log 10). -/
def State.withFetchWord (s : State) (nbits w : Nat) : State :=
  placeBytes (tableBytes nbits w) s.pc (readyToFetch s)

end Sys2Proof.Machine
end

