-- ==== Sys2Proof/Machine/Launch.lean ====
section
/-! DEFINITION. Which launch states the model accepts (R452). -/

namespace Sys2Proof.Machine

/-- Whether a cell key lies in a store of the GPU: vram or oam (R63). -/
def gpuCell (k : Nat) : Bool := (decide (0x8000 ≤ k) && decide (k ≤ 0x9FFF)) || (decide (0xFE00 ≤ k) && decide (k ≤ 0xFE9F))

/-- The checks of R452: F's low nibble 0, cycles 0, the latch false, every RAM byte 0 (ext_ram, wram, echo_ram, io, hram). -/
def State.launchWellFormed (s : State) : Bool :=
  decide (s.f &&& 0x0F = 0) && decide (s.cycles = 0) && !s.bootLatch &&
    s.mem.all (fun cell => gpuCell cell.1 || decide (cell.2 = unlistedByte))

/-- Accepts a launch state as it is, or refuses it as malformed; it is not repaired (R452). -/
def State.launch (s : State) : StepOutcome :=
  if s.launchWellFormed then .next s else .refused .malformedLaunch

end Sys2Proof.Machine
end

