-- ==== Sys2Proof/WellFormed.lean ====
section
/-! DEFINITION. Well-formedness: an instruction under the parameters of a session, and the parameters themselves.

Every operand of an instruction is a byte or a word of its full width, so an instruction can be ill-formed in one way
only: its table entry is not populated (R136, D2). -/

namespace Sys2Proof

/-- The instruction has a descriptor under the parameters (R136). -/
def Instr.wellFormed (cfg : Config) (i : Instr) : Bool := Machine.populated cfg i.opcode

/-- The address of a tap lies in the I/O block and is not IF's (R80, R82). -/
def tapInBlock (a : Word) : Bool := decide (0xFF00 ≤ a.toNat) && decide (a.toNat ≤ 0xFF7E) && decide (a ≠ 0xFF0F)

/-- The taps' addresses as a list, in the order of R82. -/
def TapAddr.toList (t : TapAddr) : List Word := [t.keypad, t.lcdc, t.scy, t.scx, t.ly, t.dma, t.bgp, t.boot]

/-- Every tap lies in the I/O block, and no two taps share an address (R82, D3: only then do the properties of the source's
section 8 hold). The machine runs under other addresses too. -/
def Config.wellFormed (cfg : Config) : Bool :=
  cfg.taps.toList.all tapInBlock && decide cfg.taps.toList.Nodup

end Sys2Proof
end

