-- ==== Sys2Proof/Safety.lean ====
section
/-! DEFINITION. What claims about the machine are stated in: the invariant of the reachable states, which accesses raise no
fatal, what a write can touch, and how a step can end. -/

namespace Sys2Proof.Machine

/-! ### The invariant -/

/-- The keys a cell of `mem` may have: an address of vram, ext_ram, wram, echo_ram or oam, of the I/O block but IF's, or of
hram (R47, R49, R63, R92). -/
def cellKey (k : Nat) : Bool :=
  (decide (0x8000 ≤ k) && decide (k ≤ 0xFE9F)) ||
    (decide (0xFF00 ≤ k) && decide (k ≤ 0xFFFE) && decide (k ≠ 0xFF0F))

/-- The invariant of the model: the three byte stores are in canonical form, no cell lies outside the stores, in particular
`io[0x0F]` is 0 (R49), and F's low nibble is 0 (R32). -/
structure State.Inv (s : State) : Prop where
  mem_wf : s.mem.wf = true
  cart_wf : s.cart.wf = true
  bios_wf : ∀ m, s.bios = some m → m.wf = true
  cells : ∀ k v, (k, v) ∈ s.mem → cellKey k = true
  lowNibble : s.f &&& 0x0F = 0

/-! ### Accesses -/

/-- The read of the byte at an address raises no fatal (R72). -/
def State.readable (s : State) (a : Word) : Prop :=
  ¬ (a.toNat ≤ 0x00FF ∧ s.bootLatch = false ∧ s.bios = none)

/-- A write of a byte to an address raises no fatal: it does not start a DMA copy, or the copy's source is readable
(R71, R95, R401). -/
def State.writable (s : State) (a : Word) (v : Byte) : Prop :=
  regionOf s.config a = .io → writeTapOf s.config.taps a = .dma → v = 0 →
    ¬ (s.bootLatch = false ∧ s.bios = none)

/-- The write of a word at an address raises no fatal (R101). -/
def State.wordWritable (s : State) (a w : Word) : Prop := s.writable (a + 1) w.hi ∧ s.writable a w.lo

/-- The key of the cell an address stands for: the address itself, or wram's under `ECHO_MODE = alias` (R76). -/
def cellOf (cfg : Config) (a : Word) : Nat := if regionOf cfg a = .echo then echoKey cfg a else a.toNat

/-- A write to `a` may change what a read of `b` returns: they are the same cell; or `a` starts a DMA copy and `b` is in
oam; or `a` sets the boot latch and `b` is in the overlay (R71, R83, R88, R108). -/
def touches (cfg : Config) (a b : Word) : Prop :=
  cellOf cfg a = cellOf cfg b ∨
    (regionOf cfg a = .io ∧ writeTapOf cfg.taps a = .dma ∧ regionOf cfg b = .oam) ∨
    (regionOf cfg a = .io ∧ writeTapOf cfg.taps a = .boot ∧ b.toNat ≤ 0x00FF)

/-- A byte that a read returns as it was last written: a byte of a store, IF or IE, or an I/O byte with no tap (R103). -/
def holdsByte (cfg : Config) (a : Word) : Prop :=
  match regionOf cfg a with
  | .vram | .extRam | .wram | .echo | .oam | .hram | .ifReg | .ieReg => True
  | .io => readTapOf cfg.taps a = .raw ∧ writeTapOf cfg.taps a = .raw
  | .overlay | .cart | .unusable | .unmapped => False

/-- What a read of `b` returns in `t`, at the draw count of `s`: a draw is compared with the same draw (R63). -/
def State.peekAs (t s : State) (b : Word) : Res Byte := { t with draws := s.draws }.peek b

/-- The addresses an instruction stores to (the target of each byte write its handler makes, in order): HL, BC, DE, an
immediate address, the high page, or the two bytes of a word, the high one first (R101, R236). -/
def storedAt (i : Instr) (s : State) : List Word :=
  match i with
  | .ldIndHlIncA | .ldIndHlDecA | .incIndHl | .decIndHl | .ldIndHlN8 _ | .ldIndHlB | .ldIndHlC | .ldIndHlD
  | .ldIndHlE | .ldIndHlH | .ldIndHlL | .ldIndHlA | .rlcIndHl | .rrcIndHl | .rlIndHl | .rrIndHl | .slaIndHl
  | .sraIndHl | .swapIndHl | .srlIndHl | .res0IndHl | .res1IndHl | .res2IndHl | .res3IndHl | .res4IndHl
  | .res5IndHl | .res6IndHl | .res7IndHl | .set0IndHl | .set1IndHl | .set2IndHl | .set3IndHl | .set4IndHl
  | .set5IndHl | .set6IndHl | .set7IndHl => [s.hl]
  | .ldIndBcA => [s.bc]
  | .ldIndDeA => [s.de]
  | .ldIndA16A a => [a]
  | .ldhIndA8A n => [highPage n]
  | .ldIndCA => [highPage s.c]
  | .ldIndA16Sp a => [a + 1, a]
  | .pushBc | .rst00 | .callA16 _ | .rst08 | .pushDe | .rst10 | .rst18 | .pushHl | .rst20 | .rst28 | .pushAf
  | .rst30 | .rst38 => [s.sp - 1, s.sp - 2]
  | .callNzA16 _ => if s.flagZ then [] else [s.sp - 1, s.sp - 2]
  | .callZA16 _ => if s.flagZ then [s.sp - 1, s.sp - 2] else []
  | .callNcA16 _ => if s.flagCy then [] else [s.sp - 1, s.sp - 2]
  | .callCA16 _ => if s.flagCy then [s.sp - 1, s.sp - 2] else []
  | _ => []

/-! ### Operands -/

/-- The byte an ALU source gives (R250). -/
def State.sourceByte (s : State) (src : AluSource) : Res Byte :=
  match src with
  | .reg r => .ok (s.reg8 r)
  | .indHl => s.peek s.hl
  | .imm n => .ok n

/-- The state after an ALU source is read: unchanged, but for a draw. -/
def State.afterSource (s : State) (src : AluSource) : State :=
  match src with
  | .indHl => s.afterRead s.hl
  | _ => s

/-- The byte of an 8-bit operand (R140). -/
def State.operandByte (s : State) (o : Operand8) : Res Byte :=
  match o with
  | .reg r => .ok (s.reg8 r)
  | .indHl => s.peek s.hl

/-- The state after an 8-bit operand is read: unchanged, but for a draw. -/
def State.afterOperand (s : State) (o : Operand8) : State :=
  match o with
  | .reg _ => s
  | .indHl => s.afterRead s.hl

/-! ### Ends of an instruction and of a step -/

/-- `u` with the outcome `None` of an instruction at `s`: PC past its bytes, the cost in M-cycles charged (R150). -/
def State.advanced (u s : State) (length cost : Nat) : State :=
  { u with pc := s.pc + BitVec.ofNat 16 length, cycles := s.cycles + perMCycle s.config * cost }

/-- `u` with a jump of an instruction at `s`: PC at the target, the cost in M-cycles charged (R150, R162). -/
def State.jumped (u s : State) (target : Word) (cost : Nat) : State :=
  { u with pc := target, cycles := s.cycles + perMCycle s.config * cost }

/-- The step of the state is one of R160: no interrupt entry is due, and it is neither halted nor stopped. -/
def State.runs (s : State) : Prop := interruptCheck s = .ok (false, s) ∧ s.halted = false ∧ s.stopped = false

/-- The step neither faults nor is refused (R421). -/
def safeStep (s : State) : Prop := ∃ t, step s = .next t

end Sys2Proof.Machine
end

