-- ==== Sys2Proof/Certificates/Slice0/Obligations.lean ====
section
/-! DEFINITION. The statements for the provers. Each docstring names the rule of spec/ it formalises, or says that it rests
on a choice of the model and names the log entry. `perMCycle s.config` is 1 or 4, the unit of R152. -/

open Sys2Proof Sys2Proof.Machine

/-! ### Launch and reset -/

/-- R451: the registers of each profile, what every profile leaves 0, and the GPU's state as the launch gives it. -/
def Obligations.LaunchProfileValues : Prop :=
  ∀ (cfg : Config) (p : InitProfile) (cart : Memory) (bios : Option Memory) (gpu : Gpu) (gpuMem : Memory),
    (∀ k v, (k, v) ∈ gpuMem → gpuCell k = true) →
    ∀ s, s = State.atLaunch cfg p cart bios gpu gpuMem →
      s.ime = false ∧ s.eiDelay = false ∧ s.halted = false ∧ s.stopped = false ∧ s.cycles = 0 ∧ s.bootLatch = false ∧
      (∀ k, gpuCell k = false → s.mem.read k = 0) ∧ s.ifReg = 0 ∧ s.ieReg = 0 ∧ s.keypadStub = 0 ∧
      s.gpu = gpu ∧ (∀ k, gpuCell k = true → s.mem.read k = gpuMem.read k) ∧
      (∀ r, p = .free r → s.a = r.a ∧ s.f = r.f ∧ s.b = r.b ∧ s.c = r.c ∧ s.d = r.d ∧ s.e = r.e ∧ s.h = r.h ∧
        s.l = r.l ∧ s.sp = r.sp ∧ s.pc = r.pc) ∧
      (p = .biosBoot → s.a = 0 ∧ s.f = 0 ∧ s.b = 0 ∧ s.c = 0 ∧ s.d = 0 ∧ s.e = 0 ∧ s.h = 0 ∧ s.l = 0 ∧
        s.sp = 0x0000 ∧ s.pc = 0x0000) ∧
      (p = .postBoot → s.a = 0x01 ∧ s.f = 0xB0 ∧ s.b = 0x00 ∧ s.c = 0x13 ∧ s.d = 0x00 ∧ s.e = 0xD8 ∧
        s.h = 0x01 ∧ s.l = 0x4D ∧ s.sp = 0xFFFE ∧ s.pc = 0x0100)

/-- The reset state, whose register, cartridge and GPU values are the model's choice (logs 1, 2, 3), meets the invariant, is
accepted as a launch, and is about to fetch. -/
def Obligations.ResetMeetsInvariantAndIsAccepted : Prop :=
  State.reset.Inv ∧ State.launch State.reset = .next State.reset ∧ State.reset.runs

/-- R452: a launch state is accepted as it is exactly when F's low nibble, the cycle count, the latch and the RAM stores are 0,
and is refused otherwise. -/
def Obligations.LaunchAcceptsOnlyWellFormedStates : Prop :=
  ∀ s : State, s.mem.wf = true →
    (State.launch s = .next s ↔
      s.f &&& 0x0F = 0 ∧ s.cycles = 0 ∧ s.bootLatch = false ∧ ∀ k, gpuCell k = false → s.mem.read k = 0) ∧
    (State.launch s ≠ .next s → State.launch s = .refused .malformedLaunch)

/-! ### Registers and flags -/

/-- R31: the pairs are views of the 8-bit registers, high byte first, and writing a pair writes exactly its two halves. -/
def Obligations.RegisterPairsAreViews : Prop :=
  ∀ (s : State) (v : Word),
    (s.reg16 .bc).toNat = s.b.toNat * 256 + s.c.toNat ∧ (s.reg16 .de).toNat = s.d.toNat * 256 + s.e.toNat ∧
    (s.reg16 .hl).toNat = s.h.toNat * 256 + s.l.toNat ∧ s.reg16 .sp = s.sp ∧
    (s.stackPair .af).toNat = s.a.toNat * 256 + (s.f.toNat - s.f.toNat % 16) ∧
    (∀ p, (s.setReg16 p v).reg16 p = v) ∧
    (∀ q, (s.setStackPair q v).stackPair q = if q = .af then v &&& 0xFFF0 else v) ∧
    s.setReg16 .bc v = { s with b := v.hi, c := v.lo } ∧ s.setReg16 .de v = { s with d := v.hi, e := v.lo } ∧
    s.setReg16 .hl v = { s with h := v.hi, l := v.lo } ∧ s.setReg16 .sp v = { s with sp := v } ∧
    s.setStackPair .af v = { s with a := v.hi, f := v.lo &&& 0xF0 }

/-- R38: the flags are bits 7 to 4 of F, and a flag update writes those four bits only (R32). -/
def Obligations.FlagBitsOfF : Prop :=
  ∀ (s : State) (z n h cy : Bool),
    s.flagZ = decide (s.f.toNat / 128 % 2 = 1) ∧ s.flagN = decide (s.f.toNat / 64 % 2 = 1) ∧
    s.flagH = decide (s.f.toNat / 32 % 2 = 1) ∧ s.flagCy = decide (s.f.toNat / 16 % 2 = 1) ∧
    (s.setFlags z n h cy).f.toNat =
      128 * z.toNat + 64 * n.toNat + 32 * h.toNat + 16 * cy.toNat + s.f.toNat % 16

/-! ### The bus -/

/-- R70, with R80, R82, R89 and R90, at the reference map and taps: what a read returns at every address, leaving the
state as it was. The scanline clause is the model's own form of a draw: the free value at the draw counter, counted (log 6). -/
def Obligations.BusReadRouting : Prop :=
  ∀ (s : State) (a : Word), s.config.mapVariant = .asDocumented → s.config.echoMode = .separate →
    s.config.lcdcReadback = .stored → s.config.taps = .reference →
    (a.toNat ≤ 0x00FF → s.bootLatch = false → s.bios = none → busRead a s = .error (.fault (.biosAbsent a))) ∧
    (∀ bios, a.toNat ≤ 0x00FF → s.bootLatch = false → s.bios = some bios → busRead a s = .ok (bios.read a.toNat, s)) ∧
    (a.toNat ≤ 0x00FF → s.bootLatch = true → busRead a s = .ok (s.cart.read a.toNat, s)) ∧
    (0x0100 ≤ a.toNat → a.toNat ≤ 0x7FFF → busRead a s = .ok (s.cart.read a.toNat, s)) ∧
    (0x8000 ≤ a.toNat → a.toNat ≤ 0xFDFE → busRead a s = .ok (s.mem.read a.toNat, s)) ∧
    (0xFE00 ≤ a.toNat → a.toNat ≤ 0xFE9E → busRead a s = .ok (s.mem.read a.toNat, s)) ∧
    (0xFEA0 ≤ a.toNat → a.toNat ≤ 0xFEFE → busRead a s = .ok (0x00, s)) ∧
    (a = 0xFF0F → busRead a s = .ok (s.ifReg, s)) ∧
    (a = 0xFF00 → busRead a s = .ok (0xFF, s)) ∧
    (a = 0xFF40 → busRead a s = .ok (s.gpu.lcdc, s)) ∧
    (a = 0xFF42 → busRead a s = .ok (s.gpu.scrollY, s)) ∧
    (a = 0xFF43 → busRead a s = .ok (s.gpu.scrollX, s)) ∧
    (a = 0xFF44 → busRead a s = .ok (Config.freeScanline s.draws, { s with draws := s.draws + 1 })) ∧
    (0xFF00 ≤ a.toNat → a.toNat ≤ 0xFF7E → a ∉ ([0xFF0F, 0xFF00, 0xFF40, 0xFF42, 0xFF43, 0xFF44] : List Word) →
      busRead a s = .ok (s.mem.read a.toNat, s)) ∧
    (0xFF80 ≤ a.toNat → a.toNat ≤ 0xFFFD → busRead a s = .ok (s.mem.read a.toNat, s)) ∧
    (a = 0xFFFF → busRead a s = .ok (s.ieReg, s)) ∧
    (a ∈ ([0xFDFF, 0xFE9F, 0xFEFF, 0xFF7F, 0xFFFE] : List Word) → busRead a s = .ok (0x00, s))

/-- R71, with R80 and R83 to R88, at the reference map and taps: what a write does at every address. -/
def Obligations.BusWriteRouting : Prop :=
  ∀ (s : State) (a : Word) (v : Byte), s.config.mapVariant = .asDocumented → s.config.echoMode = .separate →
    s.config.taps = .reference →
    ∀ raw, raw = { s with mem := s.mem.write a.toNat v } →
    (a.toNat ≤ 0x7FFF → busWrite a v s = .ok s) ∧
    (0x8000 ≤ a.toNat → a.toNat ≤ 0xFDFE → busWrite a v s = .ok raw) ∧
    (0xFE00 ≤ a.toNat → a.toNat ≤ 0xFE9E → busWrite a v s = .ok raw) ∧
    (0xFEA0 ≤ a.toNat → a.toNat ≤ 0xFEFE → busWrite a v s = .ok s) ∧
    (a = 0xFF0F → busWrite a v s = .ok { s with ifReg := v }) ∧
    (a = 0xFF50 → busWrite a v s = .ok { raw with bootLatch := true }) ∧
    (a = 0xFF00 → busWrite a v s = .ok { raw with keypadStub := v }) ∧
    (a = 0xFF40 → busWrite a v s = .ok { raw with gpu := { s.gpu with lcdc := v } }) ∧
    (a = 0xFF42 → busWrite a v s = .ok { raw with gpu := { s.gpu with scrollY := v } }) ∧
    (a = 0xFF43 → busWrite a v s = .ok { raw with gpu := { s.gpu with scrollX := v } }) ∧
    (a = 0xFF47 → busWrite a v s = .ok { raw with gpu := { s.gpu with bgpal := v } }) ∧
    (a = 0xFF46 → busWrite a v s = dmaCopy v raw) ∧
    (0xFF00 ≤ a.toNat → a.toNat ≤ 0xFF7E →
      a ∉ ([0xFF0F, 0xFF50, 0xFF00, 0xFF40, 0xFF42, 0xFF43, 0xFF47, 0xFF46] : List Word) →
      busWrite a v s = .ok raw) ∧
    (0xFF80 ≤ a.toNat → a.toNat ≤ 0xFFFD → busWrite a v s = .ok raw) ∧
    (a = 0xFFFF → busWrite a v s = .ok { s with ieReg := v }) ∧
    (a ∈ ([0xFDFF, 0xFE9F, 0xFEFF, 0xFF7F, 0xFFFE] : List Word) → busWrite a v s = .ok s)

/-- R92: under the contiguous map the five skipped addresses belong to the row below them. -/
def Obligations.ContiguousMapGivesTheFiveAddresses : Prop :=
  ∀ (s : State) (v : Byte), s.config.mapVariant = .contiguous → s.config.echoMode = .separate →
    s.config.taps = .reference →
    (∀ a ∈ ([0xFDFF, 0xFE9F, 0xFF7F, 0xFFFE] : List Word),
      busRead a s = .ok (s.mem.read a.toNat, s) ∧ busWrite a v s = .ok { s with mem := s.mem.write a.toNat v }) ∧
    busRead 0xFEFF s = .ok (0x00, s) ∧ busWrite 0xFEFF v s = .ok s ∧
    ∀ a, regionOf s.config a ≠ .unmapped

/-- R76: echo RAM is a store of its own, or wram's cells under `ECHO_MODE = alias`. -/
def Obligations.EchoRamIsSeparateOrAliased : Prop :=
  ∀ (s : State) (a : Word) (v : Byte), 0xE000 ≤ a.toNat → a.toNat ≤ 0xFDFE →
    (s.config.echoMode = .separate →
      busRead a s = .ok (s.mem.read a.toNat, s) ∧ busWrite a v s = .ok { s with mem := s.mem.write a.toNat v }) ∧
    (s.config.echoMode = .aliased →
      busRead a s = busRead (a - 0x2000) s ∧ busWrite a v s = busWrite (a - 0x2000) v s)

/-- R108 (frame of the bus): a write leaves what a read returns at every address it does not touch. -/
def Obligations.BusWriteFrame : Prop :=
  ∀ (s t : State) (a : Word) (v : Byte), busWrite a v s = .ok t →
    ∀ b, ¬ touches s.config a b → t.peekAs s b = s.peek b

/-- R103, byte by byte (R74, R75, R76, R81): a byte of a round-trip address reads back as written. -/
def Obligations.ByteRoundTrip : Prop :=
  ∀ (s : State) (a : Word) (v : Byte), s.mem.wf = true → holdsByte s.config a →
    ∃ t, busWrite a v s = .ok t ∧ busRead a t = .ok (v, t)

/-- R103: a word whose two bytes are round-trip bytes reads back as written, at any alignment (R106). R102: at 0xFFFF the
second byte is that of 0x0000, so a write drops the high byte and sets IE to the low one, and a read takes IE and the overlay's
byte, or is the bus fatal of 0x0000. -/
def Obligations.WordRoundTrip : Prop :=
  (∀ (s : State) (a w : Word), s.mem.wf = true → holdsByte s.config a → holdsByte s.config (a + 1) →
    ∃ t, memWrite16 a w s = .ok t ∧ memRead16 a t = .ok (w, t) ∧ busRead a t = .ok (w.lo, t) ∧
      busRead (a + 1) t = .ok (w.hi, t)) ∧
  ∀ (s : State) (w : Word), memWrite16 0xFFFF w s = .ok { s with ieReg := w.lo } ∧
    (∀ v, s.peek 0x0000 = .ok v → memRead16 0xFFFF s = .ok (Word.ofBytes v s.ieReg, s)) ∧
    (¬ s.readable 0x0000 → memRead16 0xFFFF s = .error (.fault (.biosAbsent 0x0000)))

/-- R95: the copy completes when its source is readable; cell i of oam then holds what a read of source byte i returned before
the copy, and no cell outside oam has changed. A drawn source byte is some draw (R63) and is left open. With the source in the
absent BIOS, the copy is the bus fatal of its first byte. -/
def Obligations.DmaCopiesTheSourcePage : Prop :=
  (∀ s : State, s.bootLatch = false → s.bios = none → dmaCopy 0x00 s = .error (.fault (.biosAbsent 0x0000))) ∧
  ∀ (s : State) (v : Byte), s.mem.wf = true → (∀ i, i < 160 → s.readable (Word.ofBytes v (BitVec.ofNat 8 i))) →
    ∃ t, dmaCopy v s = .ok t ∧
      (∀ i, i < 160 → s.readDraws (Word.ofBytes v (BitVec.ofNat 8 i)) = false →
        s.peek (Word.ofBytes v (BitVec.ofNat 8 i)) = .ok (t.mem.read (0xFE00 + i))) ∧
      (∀ k, ¬ (0xFE00 ≤ k ∧ k < 0xFE00 + 160) → t.mem.read k = s.mem.read k) ∧
      t = { s with mem := t.mem, draws := t.draws }

/-- R83: a write of any value to the boot-disable tap sets the latch, and with the latch set the low range reads the
cartridge. -/
def Obligations.BootDisableTapSetsTheLatch : Prop :=
  ∀ (s : State) (v : Byte), s.config.wellFormed = true →
    (∃ t, busWrite s.config.taps.boot v s = .ok t ∧ t.bootLatch = true ∧ t.cart = s.cart ∧
      t.mem = s.mem.write s.config.taps.boot.toNat v) ∧
    (s.bootLatch = true → ∀ a : Word, a.toNat ≤ 0x00FF → busRead a s = .ok (s.cart.read a.toNat, s))

/-! ### Encoding and decoding -/

/-- R130 to R148: decoding the encoding of any instruction, with any bytes after it, gives it back with every operand. -/
def Obligations.DecodeInvertsEncode : Prop :=
  ∀ (i : Instr) (rest : List Byte), decode (encode i ++ rest) = .ok (i, rest)

/-- R130 to R148: what decodes is the encoding of what it decodes to, but for STOP's ignored second byte; so no two byte
strings but STOP's decode to one instruction. -/
def Obligations.EncodeInvertsDecode : Prop :=
  ∀ (bytes rest : List Byte) (i : Instr), decode bytes = .ok (i, rest) →
    (i ≠ .stop → bytes = encode i ++ rest) ∧ (i = .stop → ∃ tail, bytes = 0x10 :: tail ∧ rest = tail.drop 1)

/-- R138: exactly the eleven illegal bytes and the marker have no plain descriptor, and every extended byte has one. -/
def Obligations.IllegalOpcodesHaveNoDescriptor : Prop :=
  (∀ b : Byte, plainEntry b = none ↔
    b ∈ ([0xCB, 0xD3, 0xDB, 0xDD, 0xE3, 0xE4, 0xEB, 0xEC, 0xED, 0xF4, 0xFC, 0xFD] : List Byte)) ∧
  (∀ b : Byte, (extendedInstr b).opcode = .extended b) ∧
  (∀ (b : Byte) (rest : List Byte), b ≠ 0xCB → plainEntry b = none →
    decode (b :: rest) = .error (.lookupMiss (.plain b)))

/-- How many immediate bytes the plain opcode `b` has that are read (R145); STOP's second byte is none. -/
def immediateBytes (b : Byte) : Nat :=
  match plainEntry b with
  | some (.imm8 _) => 1
  | some (.imm16 _) => 2
  | _ => 0

/-- R403, with the fetch's part of R401 and R405: a step that cannot read its opcode byte is the fatal BiosAbsent with PC, one
that cannot read the byte after the prefix is that fatal with PC+1, and one that cannot read an immediate byte of its
instruction is that fatal with the first such byte's address, wrapping at 0xFFFF. A step that fetches a byte without a
descriptor, or an opcode the parameters leave out, is the fatal LookupMiss with its tag; a step raises LookupMiss of no other
tag, and the reference tables leave out the eleven illegal bytes only (the marker is no tag, R137). -/
def Obligations.StepFaultsInFetch : Prop :=
  (∀ s : State, s.runs → s.pc.toNat ≤ 0x00FF → s.bootLatch = false → s.bios = none →
    step s = .fault (.biosAbsent s.pc)) ∧
  (∀ (s : State) (b : Byte), s.runs → s.peek s.pc = .ok b →
    (b = 0xCB → ¬ s.readable (s.pc + 1) → step s = .fault (.biosAbsent (s.pc + 1))) ∧
    (populated s.config (.plain b) = true → ∀ k, 1 ≤ k → k ≤ immediateBytes b →
      (∀ j, 1 ≤ j → j < k → s.readable (s.pc + BitVec.ofNat 16 j)) → ¬ s.readable (s.pc + BitVec.ofNat 16 k) →
      step s = .fault (.biosAbsent (s.pc + BitVec.ofNat 16 k))) ∧
    (b ≠ 0xCB → populated s.config (.plain b) = false → step s = .fault (.lookupMiss (.plain b))) ∧
    (∀ b1, b = 0xCB → (s.afterRead s.pc).peek (s.pc + 1) = .ok b1 → populated s.config (.extended b1) = false →
      step s = .fault (.lookupMiss (.extended b1)))) ∧
  (∀ (s : State) (op : Opcode), step s = .fault (.lookupMiss op) → populated s.config op = false ∧ op ≠ .plain 0xCB) ∧
  ∀ b : Byte, populated .reference (.extended b) = true ∧
    (populated .reference (.plain b) = false ↔
      b ∈ ([0xCB, 0xD3, 0xDB, 0xDD, 0xE3, 0xE4, 0xEB, 0xEC, 0xED, 0xF4, 0xFC, 0xFD] : List Byte))

/-- Words written out bit by bit from R140 to R148 decode to the instructions they stand for. -/
def Obligations.WrittenOutWordsDecode : Prop :=
  decode [0b01111001] = .ok (.ldAC, []) ∧ decode [0b00010110, 0x5A] = .ok (.ldDN8 0x5A, []) ∧
  decode [0b00110001, 0xFE, 0xCF] = .ok (.ldSpN16 0xCFFE, []) ∧ decode [0b11110101] = .ok (.pushAf, []) ∧
  decode [0b10011110] = .ok (.sbcAIndHl, []) ∧ decode [0b00111001] = .ok (.addHlSp, []) ∧
  decode [0b11001011, 0b01111100] = .ok (.bit7H, []) ∧ decode [0b11001011, 0b00110110] = .ok (.swapIndHl, []) ∧
  decode [0b00110000, 0xFE] = .ok (.jrNcE8 0xFE, []) ∧ decode [0b11101111] = .ok (.rst28, []) ∧
  decode [0b01110110] = .ok (.halt, [])

/-- R160: when the bytes at PC are those of a populated instruction, the step is that instruction's meaning with step 7 of
R160 after it. STOP's second byte is not among the bytes read (R145). -/
def Obligations.StepRunsTheDecodedInstruction : Prop :=
  ∀ (s u : State) (i : Instr) (bytes : List Byte), s.runs → readBytes i.bytesRead s.pc s = .ok (bytes, u) →
    decode bytes = .ok (i, []) → i.wellFormed s.config = true →
    step s = afterExec s.eiDelay (exec i u) ∧ u = { s with draws := u.draws }

/-! ### 8-bit loads and stores -/

/-- R200, R201: LD r,r' and LD r,n8. -/
def Obligations.RegisterLoads : Prop :=
  (∀ (s : State) (dst src : Reg8), ∃ t, exec (Instr.ldRegReg dst src) s = .next t ∧ t.reg8 dst = s.reg8 src ∧
    (∀ r, r ≠ dst → t.reg8 r = s.reg8 r) ∧
    t = ({ s with a := t.a, b := t.b, c := t.c, d := t.d, e := t.e, h := t.h, l := t.l } : State).advanced s 1 1) ∧
  (∀ (s : State) (dst : Reg8) (n : Byte), ∃ t, exec (Instr.ldRegN8 dst n) s = .next t ∧ t.reg8 dst = n ∧
    (∀ r, r ≠ dst → t.reg8 r = s.reg8 r) ∧
    t = ({ s with a := t.a, b := t.b, c := t.c, d := t.d, e := t.e, h := t.h, l := t.l } : State).advanced s 2 2)

/-- The shape of a load: a readable address gives its byte to the register; an unreadable one is the bus fatal. -/
def LoadsFrom (i : Instr) (dst : Reg8) (addr : Word) (length cost : Nat) (s : State) : Prop :=
  (s.readable addr → ∃ v, s.peek addr = .ok v ∧
    exec i s = .next (((s.afterRead addr).setReg8 dst v).advanced s length cost)) ∧
  (¬ s.readable addr → exec i s = .fault (.biosAbsent addr))

/-- R202, R205, R206, R209, R211, R213: the loads from memory, with the bus fatal where the address is unreadable. -/
def Obligations.MemoryLoads : Prop :=
  ∀ s : State, (∀ dst, LoadsFrom (Instr.ldRegIndHl dst) dst s.hl 1 2 s) ∧
    LoadsFrom .ldAIndBc .a (Word.ofBytes s.b s.c) 1 2 s ∧ LoadsFrom .ldAIndDe .a (Word.ofBytes s.d s.e) 1 2 s ∧
    (∀ a, LoadsFrom (.ldAIndA16 a) .a a 3 4 s) ∧ (∀ n, LoadsFrom (.ldhAIndA8 n) .a (0xFF00 + n.setWidth 16) 2 3 s) ∧
    LoadsFrom .ldAIndC .a (0xFF00 + s.c.setWidth 16) 1 2 s

/-- The shape of a store: the bus write of the byte, then PC and the charge. A write that starts a DMA copy from the absent
BIOS is the bus fatal of the copy's first source byte. -/
def StoresAt (i : Instr) (addr : Word) (v : Byte) (length cost : Nat) (s : State) : Prop :=
  (s.writable addr v → ∃ u, busWrite addr v s = .ok u ∧ exec i s = .next (u.advanced s length cost)) ∧
  (¬ s.writable addr v → exec i s = .fault (.biosAbsent 0x0000))

/-- R203, R204, R207, R208, R210, R212, R214: the stores. -/
def Obligations.MemoryStores : Prop :=
  ∀ s : State, (∀ src, StoresAt (Instr.ldIndHlReg src) s.hl (s.reg8 src) 1 2 s) ∧
    (∀ n, StoresAt (.ldIndHlN8 n) s.hl n 2 3 s) ∧
    StoresAt .ldIndBcA (Word.ofBytes s.b s.c) s.a 1 2 s ∧ StoresAt .ldIndDeA (Word.ofBytes s.d s.e) s.a 1 2 s ∧
    (∀ a, StoresAt (.ldIndA16A a) a s.a 3 4 s) ∧ (∀ n, StoresAt (.ldhIndA8A n) (0xFF00 + n.setWidth 16) s.a 2 3 s) ∧
    StoresAt .ldIndCA (0xFF00 + s.c.setWidth 16) s.a 1 2 s

/-- R215, R216, R217, R218: the (HL+) and (HL-) forms access at the old HL, then move HL by one, wrapping. -/
def Obligations.HlMovingLoadsAndStores : Prop :=
  ∀ s : State,
    (s.writable s.hl s.a → ∃ u, busWrite s.hl s.a s = .ok u ∧
      exec .ldIndHlIncA s = .next ((u.setHl (s.hl + 1)).advanced s 1 2) ∧
      exec .ldIndHlDecA s = .next ((u.setHl (s.hl - 1)).advanced s 1 2)) ∧
    (¬ s.writable s.hl s.a → exec .ldIndHlIncA s = .fault (.biosAbsent 0x0000) ∧
      exec .ldIndHlDecA s = .fault (.biosAbsent 0x0000)) ∧
    (s.readable s.hl → ∃ v, s.peek s.hl = .ok v ∧
      exec .ldAIndHlInc s = .next ((({ s.afterRead s.hl with a := v }).setHl (s.hl + 1)).advanced s 1 2) ∧
      exec .ldAIndHlDec s = .next ((({ s.afterRead s.hl with a := v }).setHl (s.hl - 1)).advanced s 1 2)) ∧
    (¬ s.readable s.hl → exec .ldAIndHlInc s = .fault (.biosAbsent s.hl) ∧
      exec .ldAIndHlDec s = .fault (.biosAbsent s.hl))

/-! ### 16-bit loads and the stack -/

/-- R230, R232: LD rr,n16 and LD SP,HL. -/
def Obligations.PairLoads : Prop :=
  ∀ (s : State) (n : Word),
    exec (.ldBcN16 n) s = .next (({ s with b := n.hi, c := n.lo } : State).advanced s 3 3) ∧
    exec (.ldDeN16 n) s = .next (({ s with d := n.hi, e := n.lo } : State).advanced s 3 3) ∧
    exec (.ldHlN16 n) s = .next (({ s with h := n.hi, l := n.lo } : State).advanced s 3 3) ∧
    exec (.ldSpN16 n) s = .next (({ s with sp := n } : State).advanced s 3 3) ∧
    exec .ldSpHl s = .next (({ s with sp := Word.ofBytes s.h s.l } : State).advanced s 1 2)

/-- R233, R293: LD HL,SP+e8 and ADD SP,e8: the sum with the sign-extended byte, Z and N 0, H and CY from the unsigned
addition to SP's low byte. -/
def Obligations.StackPointerOffsets : Prop :=
  ∀ (s : State) (e : Byte),
    (∃ t, exec (.ldHlSpE8 e) s = .next t ∧
      (t.hl.toNat : Int) = ((s.sp.toNat : Int) + e.toInt) % 65536 ∧
      t.flagZ = false ∧ t.flagN = false ∧ t.flagH = decide (s.sp.toNat % 16 + e.toNat % 16 > 0x0F) ∧
      t.flagCy = decide (s.sp.toNat % 256 + e.toNat > 0xFF) ∧ t.f &&& 0x0F = s.f &&& 0x0F ∧
      t = ({ s with h := t.h, l := t.l, f := t.f } : State).advanced s 2 3) ∧
    (∃ t, exec (.addSpE8 e) s = .next t ∧
      (t.sp.toNat : Int) = ((s.sp.toNat : Int) + e.toInt) % 65536 ∧
      t.flagZ = false ∧ t.flagN = false ∧ t.flagH = decide (s.sp.toNat % 16 + e.toNat % 16 > 0x0F) ∧
      t.flagCy = decide (s.sp.toNat % 256 + e.toNat > 0xFF) ∧ t.f &&& 0x0F = s.f &&& 0x0F ∧
      t = ({ s with sp := t.sp, f := t.f } : State).advanced s 2 4)

/-- Where the outcome `o` of an instruction or an interrupt entry that stores the word `w` at `a` from the state `b` is the bus
fatal: one of its two bytes starts a DMA copy from the absent BIOS, the high byte's first (R95, R101). -/
def WordStoreFaults (o : StepOutcome) (a w : Word) (b : State) : Prop :=
  (¬ b.writable (a + 1) w.hi → o = .fault (.biosAbsent 0x0000)) ∧
  ∀ u, busWrite (a + 1) w.hi b = .ok u → ¬ u.writable a w.lo → o = .fault (.biosAbsent 0x0000)

/-- R231, R234, R236: LD (a16),SP and PUSH write the high byte at A+1 first, then the low byte at A; PUSH moves SP down by
two. AF is pushed with F's low nibble 0. A byte that starts a DMA copy from the absent BIOS is the bus fatal. -/
def Obligations.WordStoresAndPush : Prop :=
  ∀ s : State, (∀ a, WordStoreFaults (exec (.ldIndA16Sp a) s) a s.sp s) ∧
    (∀ q, WordStoreFaults (exec (Instr.push q) s) (s.sp - 2) (s.stackPair q) { s with sp := s.sp - 2 }) ∧
    (∀ a, s.wordWritable a s.sp → ∃ u t, busWrite (a + 1) s.sp.hi s = .ok u ∧ busWrite a s.sp.lo u = .ok t ∧
      exec (.ldIndA16Sp a) s = .next (t.advanced s 3 5)) ∧
    (∀ q, s.wordWritable (s.sp - 2) (s.stackPair q) → ∃ u t,
      busWrite (s.sp - 1) (s.stackPair q).hi { s with sp := s.sp - 2 } = .ok u ∧
      busWrite (s.sp - 2) (s.stackPair q).lo u = .ok t ∧ exec (Instr.push q) s = .next (t.advanced s 1 4)) ∧
    s.stackPair .bc = Word.ofBytes s.b s.c ∧ s.stackPair .de = Word.ofBytes s.d s.e ∧
    s.stackPair .hl = Word.ofBytes s.h s.l ∧ s.stackPair .af = Word.ofBytes s.a (s.f &&& 0xF0)

/-- The two bus fatals of a pop: the low byte at SP, then the high byte at SP+1. -/
def PopFaults (i : Instr) (s : State) : Prop :=
  (¬ s.readable s.sp → exec i s = .fault (.biosAbsent s.sp)) ∧
  (s.readable s.sp → ¬ s.readable (s.sp + 1) → exec i s = .fault (.biosAbsent (s.sp + 1)))

/-- R235, R237: POP reads the low byte at SP and the high byte at SP+1, moves SP up by two and writes the pair; POP AF keeps
bits 7 to 4 of the low byte; an unreadable byte is the bus fatal. -/
def Obligations.PopReadsAWordAndMovesSp : Prop :=
  (∀ (s : State) (q : StackPair), PopFaults (Instr.pop q) s) ∧
  ∀ s : State, s.readable s.sp → s.readable (s.sp + 1) →
    ∃ lo hi u, s.peek s.sp = .ok lo ∧ (s.afterRead s.sp).peek (s.sp + 1) = .ok hi ∧
      u = { (s.afterRead s.sp).afterRead (s.sp + 1) with sp := s.sp + 2 } ∧
      exec .popBc s = .next (({ u with b := hi, c := lo } : State).advanced s 1 3) ∧
      exec .popDe s = .next (({ u with d := hi, e := lo } : State).advanced s 1 3) ∧
      exec .popHl s = .next (({ u with h := hi, l := lo } : State).advanced s 1 3) ∧
      exec .popAf s = .next (({ u with a := hi, f := lo &&& 0xF0 } : State).advanced s 1 3)

/-! ### 8-bit arithmetic and logic -/

/-- The length and the cost of the forms of the ALU group (R250). -/
def aluCost : AluSource → Nat × Nat
  | .reg _ => (1, 1)
  | .indHl => (1, 2)
  | .imm _ => (2, 2)

/-- R250, R251, R252: ADD and ADC over every source, result and flags computed on unreduced integers; an unreadable (HL) is
the bus fatal. -/
def Obligations.AddAndAdc : Prop :=
  (∀ (s : State) (op : AluOp), op = .add ∨ op = .adc → ¬ s.readable s.hl →
    exec (Instr.alu op .indHl) s = .fault (.biosAbsent s.hl)) ∧
  ∀ (s : State) (src : AluSource) (v : Byte), s.sourceByte src = .ok v →
    ∀ op, op = .add ∨ op = .adc → ∀ c, c = (if op = .adc then s.flagCy.toNat else 0) →
      ∃ t, exec (Instr.alu op src) s = .next t ∧ t.a.toNat = (s.a.toNat + v.toNat + c) % 256 ∧
        t.flagZ = decide ((s.a.toNat + v.toNat + c) % 256 = 0) ∧ t.flagN = false ∧
        t.flagH = decide (s.a.toNat % 16 + v.toNat % 16 + c > 0x0F) ∧
        t.flagCy = decide (s.a.toNat + v.toNat + c > 0xFF) ∧ t.f &&& 0x0F = s.f &&& 0x0F ∧
        t = ({ s.afterSource src with a := t.a, f := t.f } : State).advanced s (aluCost src).1 (aluCost src).2

/-- R250, R253, R254, R258: SUB, SBC and CP over every source; CP leaves A; an unreadable (HL) is the bus fatal. -/
def Obligations.SubSbcAndCp : Prop :=
  (∀ (s : State) (op : AluOp), op = .sub ∨ op = .sbc ∨ op = .cp → ¬ s.readable s.hl →
    exec (Instr.alu op .indHl) s = .fault (.biosAbsent s.hl)) ∧
  ∀ (s : State) (src : AluSource) (v : Byte), s.sourceByte src = .ok v →
    ∀ op, op = .sub ∨ op = .sbc ∨ op = .cp → ∀ c, c = (if op = .sbc then s.flagCy.toNat else 0) →
      ∃ t, exec (Instr.alu op src) s = .next t ∧
        (t.a.toNat : Int) = (if op = .cp then (s.a.toNat : Int) else ((s.a.toNat : Int) - v.toNat - c) % 256) ∧
        t.flagZ = decide (((s.a.toNat : Int) - v.toNat - c) % 256 = 0) ∧ t.flagN = true ∧
        t.flagH = decide (s.a.toNat % 16 < v.toNat % 16 + c) ∧ t.flagCy = decide (s.a.toNat < v.toNat + c) ∧
        t.f &&& 0x0F = s.f &&& 0x0F ∧
        t = ({ s.afterSource src with a := t.a, f := t.f } : State).advanced s (aluCost src).1 (aluCost src).2

/-- R250, R255, R256, R257: AND, XOR and OR over every source; an unreadable (HL) is the bus fatal. -/
def Obligations.AndXorAndOr : Prop :=
  (∀ (s : State) (op : AluOp), op = .and ∨ op = .xor ∨ op = .or → ¬ s.readable s.hl →
    exec (Instr.alu op .indHl) s = .fault (.biosAbsent s.hl)) ∧
  ∀ (s : State) (src : AluSource) (v : Byte), s.sourceByte src = .ok v →
    ∀ op r, (op, r) = (AluOp.and, s.a &&& v) ∨ (op, r) = (AluOp.xor, s.a ^^^ v) ∨ (op, r) = (AluOp.or, s.a ||| v) →
      ∃ t, exec (Instr.alu op src) s = .next t ∧ t.a = r ∧ t.flagZ = decide (r = 0) ∧ t.flagN = false ∧
        t.flagH = decide (op = .and) ∧ t.flagCy = false ∧ t.f &&& 0x0F = s.f &&& 0x0F ∧
        t = ({ s.afterSource src with a := t.a, f := t.f } : State).advanced s (aluCost src).1 (aluCost src).2

/-- R259, R261: INC r and DEC r; CY keeps its value. -/
def Obligations.IncAndDecOfRegisters : Prop :=
  ∀ (s : State) (r : Reg8),
    (∃ t, exec (Instr.inc8 (.reg r)) s = .next t ∧ (t.reg8 r).toNat = ((s.reg8 r).toNat + 1) % 256 ∧
      t.flagZ = decide (s.reg8 r = 0xFF) ∧ t.flagN = false ∧ t.flagH = decide ((s.reg8 r).toNat % 16 = 15) ∧
      t.flagCy = s.flagCy ∧ t.f &&& 0x0F = s.f &&& 0x0F ∧ (∀ q, q ≠ r → t.reg8 q = s.reg8 q) ∧
      t = ({ s with a := t.a, b := t.b, c := t.c, d := t.d, e := t.e, h := t.h, l := t.l, f := t.f } : State).advanced
        s 1 1) ∧
    (∃ t, exec (Instr.dec8 (.reg r)) s = .next t ∧ (t.reg8 r).toNat = ((s.reg8 r).toNat + 255) % 256 ∧
      t.flagZ = decide (s.reg8 r = 0x01) ∧ t.flagN = true ∧ t.flagH = decide ((s.reg8 r).toNat % 16 = 0) ∧
      t.flagCy = s.flagCy ∧ t.f &&& 0x0F = s.f &&& 0x0F ∧ (∀ q, q ≠ r → t.reg8 q = s.reg8 q) ∧
      t = ({ s with a := t.a, b := t.b, c := t.c, d := t.d, e := t.e, h := t.h, l := t.l, f := t.f } : State).advanced
        s 1 1)

/-- R260, R262: INC (HL) and DEC (HL) read, then write the same address once; the flags follow from the byte read, also where
the write is dropped. An unreadable address, or a write that starts a DMA copy from the absent BIOS, is the bus fatal. -/
def Obligations.IncAndDecOfMemory : Prop :=
  (∀ s : State, ¬ s.readable s.hl → exec .incIndHl s = .fault (.biosAbsent s.hl) ∧
    exec .decIndHl s = .fault (.biosAbsent s.hl)) ∧
  (∀ (s : State) (v : Byte), s.peek s.hl = .ok v →
    (¬ s.writable s.hl (v + 1) → exec .incIndHl s = .fault (.biosAbsent 0x0000)) ∧
    (¬ s.writable s.hl (v - 1) → exec .decIndHl s = .fault (.biosAbsent 0x0000))) ∧
  ∀ (s : State) (v : Byte), s.peek s.hl = .ok v →
    (s.writable s.hl (v + 1) → ∃ u t, busWrite s.hl (v + 1) (s.afterRead s.hl) = .ok u ∧
      exec .incIndHl s = .next t ∧ t.flagZ = decide (v = 0xFF) ∧ t.flagN = false ∧
      t.flagH = decide (v.toNat % 16 = 15) ∧ t.flagCy = s.flagCy ∧ t.f &&& 0x0F = s.f &&& 0x0F ∧
      t = ({ u with f := t.f } : State).advanced s 1 3) ∧
    (s.writable s.hl (v - 1) → ∃ u t, busWrite s.hl (v - 1) (s.afterRead s.hl) = .ok u ∧
      exec .decIndHl s = .next t ∧ t.flagZ = decide (v = 0x01) ∧ t.flagN = true ∧
      t.flagH = decide (v.toNat % 16 = 0) ∧ t.flagCy = s.flagCy ∧ t.f &&& 0x0F = s.f &&& 0x0F ∧
      t = ({ u with f := t.f } : State).advanced s 1 3)

/-- R263: DAA on every input, BCD or not. -/
def Obligations.DaaResultAndFlags : Prop :=
  ∀ (s : State) (low high : Nat),
    low = (if s.flagH = true ∨ (s.flagN = false ∧ s.a.toNat % 16 > 9) then 6 else 0) →
    high = (if s.flagCy = true ∨ (s.flagN = false ∧ s.a.toNat > 0x99) then 0x60 else 0) →
    ∃ t, exec .daa s = .next t ∧
      (t.a.toNat : Int) =
        (if s.flagN then (s.a.toNat : Int) - (low + high) else (s.a.toNat : Int) + (low + high)) % 256 ∧
      t.flagZ = decide (t.a = 0) ∧ t.flagN = s.flagN ∧ t.flagH = false ∧ t.flagCy = decide (high = 0x60) ∧
      t.f &&& 0x0F = s.f &&& 0x0F ∧ t = ({ s with a := t.a, f := t.f } : State).advanced s 1 1

/-- R251, R253, R263 together: after an addition or a subtraction of two-digit BCD numbers, DAA leaves the BCD result and the
decimal carry or borrow. -/
def Obligations.DaaAdjustsBcdSumsAndDifferences : Prop :=
  ∀ (s : State) (x y : Nat) (src : AluSource) (v : Byte), x < 100 → y < 100 → s.a.toNat = x / 10 * 16 + x % 10 →
    s.sourceByte src = .ok v → v.toNat = y / 10 * 16 + y % 10 →
    (∃ t w, exec (Instr.alu .add src) s = .next t ∧ exec .daa t = .next w ∧
      w.a.toNat = (x + y) % 100 / 10 * 16 + (x + y) % 10 ∧ w.flagCy = decide (x + y ≥ 100)) ∧
    (∃ t w, exec (Instr.alu .sub src) s = .next t ∧ exec .daa t = .next w ∧
      w.a.toNat = (x + 100 - y) % 100 / 10 * 16 + (x + 100 - y) % 10 ∧ w.flagCy = decide (x < y))

/-- R264, R265, R266: CPL, SCF and CCF. -/
def Obligations.CplScfAndCcf : Prop :=
  ∀ s : State,
    (∃ t, exec .cpl s = .next t ∧ t.a.toNat = 255 - s.a.toNat ∧ t.flagZ = s.flagZ ∧ t.flagN = true ∧ t.flagH = true ∧
      t.flagCy = s.flagCy ∧ t.f &&& 0x0F = s.f &&& 0x0F ∧ t = ({ s with a := t.a, f := t.f } : State).advanced s 1 1) ∧
    (∃ t, exec .scf s = .next t ∧ t.flagZ = s.flagZ ∧ t.flagN = false ∧ t.flagH = false ∧ t.flagCy = true ∧
      t.f &&& 0x0F = s.f &&& 0x0F ∧ t = ({ s with f := t.f } : State).advanced s 1 1) ∧
    (∃ t, exec .ccf s = .next t ∧ t.flagZ = s.flagZ ∧ t.flagN = false ∧ t.flagH = false ∧ t.flagCy = !s.flagCy ∧
      t.f &&& 0x0F = s.f &&& 0x0F ∧ t = ({ s with f := t.f } : State).advanced s 1 1)

/-! ### 16-bit arithmetic -/

/-- R290, R291, R292: ADD HL,rr leaves Z; INC rr and DEC rr write no flag and wrap modulo 2^16. -/
def Obligations.PairArithmetic : Prop :=
  ∀ (s : State) (p : Reg16),
    (∃ t, exec (Instr.addHl p) s = .next t ∧
      t.hl.toNat = (s.hl.toNat + (s.reg16 p).toNat) % 65536 ∧ t.flagZ = s.flagZ ∧ t.flagN = false ∧
      t.flagH = decide (s.hl.toNat % 4096 + (s.reg16 p).toNat % 4096 > 0x0FFF) ∧
      t.flagCy = decide (s.hl.toNat + (s.reg16 p).toNat > 0xFFFF) ∧ t.f &&& 0x0F = s.f &&& 0x0F ∧
      t = ({ s with h := t.h, l := t.l, f := t.f } : State).advanced s 1 2) ∧
    (∃ t, exec (Instr.inc16 p) s = .next t ∧ (t.reg16 p).toNat = ((s.reg16 p).toNat + 1) % 65536 ∧
      (∀ q, q ≠ p → t.reg16 q = s.reg16 q) ∧
      t = ({ s with b := t.b, c := t.c, d := t.d, e := t.e, h := t.h, l := t.l, sp := t.sp } : State).advanced s 1 2) ∧
    (∃ t, exec (Instr.dec16 p) s = .next t ∧ (t.reg16 p).toNat = ((s.reg16 p).toNat + 65535) % 65536 ∧
      (∀ q, q ≠ p → t.reg16 q = s.reg16 q) ∧
      t = ({ s with b := t.b, c := t.c, d := t.d, e := t.e, h := t.h, l := t.l, sp := t.sp } : State).advanced s 1 2)

/-! ### Rotates, shifts and bits -/

/-- The bit that enters at the vacated end and the bit shifted out, for the seven one-bit shifts (R305 to R310, R312). -/
def shiftResult (op : ShiftOp) (v : Nat) (cy : Bool) : Nat × Bool :=
  match op with
  | .rlc => (v * 2 % 256 + v / 128, decide (v / 128 = 1))
  | .rrc => (v / 2 + v % 2 * 128, decide (v % 2 = 1))
  | .rl => (v * 2 % 256 + cy.toNat, decide (v / 128 = 1))
  | .rr => (v / 2 + cy.toNat * 128, decide (v % 2 = 1))
  | .sla => (v * 2 % 256, decide (v / 128 = 1))
  | .sra => (v / 2 + v / 128 * 128, decide (v % 2 = 1))
  | .swap => (v % 16 * 16 + v / 16, false)
  | .srl => (v / 2, decide (v % 2 = 1))

/-- R300 to R303: the accumulator rotates, which write Z 0 even when A becomes 0: result, flags and frame. -/
def Obligations.AccumulatorRotates : Prop :=
  ∀ (s : State) (i : Instr) (op : ShiftOp),
    (i, op) ∈ [(Instr.rlca, ShiftOp.rlc), (.rrca, .rrc), (.rla, .rl), (.rra, .rr)] →
    ∃ t, exec i s = .next t ∧ t.a.toNat = (shiftResult op s.a.toNat s.flagCy).1 ∧ t.flagZ = false ∧ t.flagN = false ∧
      t.flagH = false ∧ t.flagCy = (shiftResult op s.a.toNat s.flagCy).2 ∧ t.f &&& 0x0F = s.f &&& 0x0F ∧
      t = ({ s with a := t.a, f := t.f } : State).advanced s 1 1

/-- Where a read-modify-write of (HL) is the bus fatal: the address is unreadable, or the write of the result `r` of the byte
read starts a DMA copy from the absent BIOS. -/
def ModifyFaults (i : Instr) (r : Byte → Byte) (s : State) : Prop :=
  (¬ s.readable s.hl → exec i s = .fault (.biosAbsent s.hl)) ∧
  ∀ v, s.peek s.hl = .ok v → ¬ s.writable s.hl (r v) → exec i s = .fault (.biosAbsent 0x0000)

/-- R304 to R312: the rotates and shifts over every operand: result, flags and frame. Over (HL), one read, then one write of
the result at the same address, the flags from the byte read; the bus fatal as `ModifyFaults` says. -/
def Obligations.RotatesAndShifts : Prop :=
  ∀ (s : State) (op : ShiftOp),
    (∀ r : Reg8, ∃ t, exec (Instr.shift op (.reg r)) s = .next t ∧
      (t.reg8 r).toNat = (shiftResult op (s.reg8 r).toNat s.flagCy).1 ∧ t.flagZ = decide (t.reg8 r = 0) ∧
      t.flagN = false ∧ t.flagH = false ∧ t.flagCy = (shiftResult op (s.reg8 r).toNat s.flagCy).2 ∧
      t.f &&& 0x0F = s.f &&& 0x0F ∧ (∀ q, q ≠ r → t.reg8 q = s.reg8 q) ∧
      t = ({ s with a := t.a, b := t.b, c := t.c, d := t.d, e := t.e, h := t.h, l := t.l, f := t.f } : State).advanced
        s 2 2) ∧
    ModifyFaults (Instr.shift op .indHl) (fun v => BitVec.ofNat 8 (shiftResult op v.toNat s.flagCy).1) s ∧
    ∀ v r : Byte, s.peek s.hl = .ok v → s.writable s.hl r → r.toNat = (shiftResult op v.toNat s.flagCy).1 →
      ∃ u t, busWrite s.hl r (s.afterRead s.hl) = .ok u ∧ exec (Instr.shift op .indHl) s = .next t ∧
        t.flagZ = decide (r = 0) ∧ t.flagN = false ∧ t.flagH = false ∧
        t.flagCy = (shiftResult op v.toNat s.flagCy).2 ∧ t.f &&& 0x0F = s.f &&& 0x0F ∧
        t = ({ u with f := t.f } : State).advanced s 2 4

/-- R313: BIT writes Z from the complement of the bit, N 0 and H 1; it writes neither CY nor the operand; an unreadable (HL)
is the bus fatal. -/
def Obligations.BitTests : Prop :=
  (∀ (s : State) (b : BitIndex), ¬ s.readable s.hl → exec (Instr.bit b .indHl) s = .fault (.biosAbsent s.hl)) ∧
  ∀ (s : State) (b : BitIndex) (o : Operand8) (v : Byte), s.operandByte o = .ok v →
    ∃ t, exec (Instr.bit b o) s = .next t ∧ t.flagZ = decide (v.toNat / 2 ^ bitNumber b % 2 = 0) ∧ t.flagN = false ∧
      t.flagH = true ∧ t.flagCy = s.flagCy ∧ t.f &&& 0x0F = s.f &&& 0x0F ∧
      t = ({ s.afterOperand o with f := t.f } : State).advanced s 2 (if o = .indHl then 3 else 2)

/-- R314, R315: RES and SET over every operand: one bit is cleared or set, no flag is written. Over (HL), one read, then one
write of the result at the same address, even where the byte is unchanged; the bus fatal as `ModifyFaults` says. -/
def Obligations.ResAndSet : Prop :=
  ∀ (s : State) (b : BitIndex),
    (∀ r : Reg8, ∃ t, exec (Instr.res b (.reg r)) s = .next t ∧
      (∀ k, (t.reg8 r).getLsbD k = if k = bitNumber b then false else (s.reg8 r).getLsbD k) ∧
      (∀ q, q ≠ r → t.reg8 q = s.reg8 q) ∧
      t = ({ s with a := t.a, b := t.b, c := t.c, d := t.d, e := t.e, h := t.h, l := t.l } : State).advanced s 2 2) ∧
    (∀ r : Reg8, ∃ t, exec (Instr.set b (.reg r)) s = .next t ∧
      (∀ k, (t.reg8 r).getLsbD k = if k = bitNumber b then true else (s.reg8 r).getLsbD k) ∧
      (∀ q, q ≠ r → t.reg8 q = s.reg8 q) ∧
      t = ({ s with a := t.a, b := t.b, c := t.c, d := t.d, e := t.e, h := t.h, l := t.l } : State).advanced s 2 2) ∧
    ModifyFaults (Instr.res b .indHl) (fun v => v &&& ~~~(1#8 <<< bitNumber b)) s ∧
    ModifyFaults (Instr.set b .indHl) (fun v => v ||| 1#8 <<< bitNumber b) s ∧
    ∀ v r : Byte, s.peek s.hl = .ok v → s.writable s.hl r →
      ∃ u, busWrite s.hl r (s.afterRead s.hl) = .ok u ∧
        (r = v &&& ~~~(1#8 <<< bitNumber b) → exec (Instr.res b .indHl) s = .next (u.advanced s 2 4)) ∧
        (r = v ||| 1#8 <<< bitNumber b → exec (Instr.set b .indHl) s = .next (u.advanced s 2 4))

/-! ### Jumps, calls and returns -/

/-- R330: when a condition holds. -/
def condHolds (cc : Cond) (s : State) : Prop :=
  match cc with
  | .nz => s.f.toNat / 128 % 2 = 0
  | .z => s.f.toNat / 128 % 2 = 1
  | .nc => s.f.toNat / 16 % 2 = 0
  | .c => s.f.toNat / 16 % 2 = 1

/-- R330, R331, R332, R333: JP a16, JP cc,a16 and JP HL. -/
def Obligations.AbsoluteJumps : Prop :=
  ∀ (s : State) (a : Word) (cc : Cond),
    exec (.jpA16 a) s = .next (s.jumped s a 4) ∧
    exec .jpHl s = .next (s.jumped s (Word.ofBytes s.h s.l) 1) ∧
    (condHolds cc s → exec (Instr.jpCond cc a) s = .next (s.jumped s a 4)) ∧
    (¬ condHolds cc s → exec (Instr.jpCond cc a) s = .next (s.advanced s 3 3))

/-- R334, R335: JR e8 and JR cc,e8; the offset is relative to the next instruction and the sum wraps. -/
def Obligations.RelativeJumps : Prop :=
  ∀ (s : State) (e : Byte) (cc : Cond) (target : Word),
    (target.toNat : Int) = ((s.pc.toNat : Int) + 2 + e.toInt) % 65536 →
    exec (.jrE8 e) s = .next (s.jumped s target 3) ∧
    (condHolds cc s → exec (Instr.jrCond cc e) s = .next (s.jumped s target 3)) ∧
    (¬ condHolds cc s → exec (Instr.jrCond cc e) s = .next (s.advanced s 2 2))

/-- The shape of a call: the return address pushed, high byte first, then PC at the target; a byte that starts a DMA copy from
the absent BIOS is the bus fatal. -/
def CallsTo (i : Instr) (returnAddress target : Word) (cost : Nat) (s : State) : Prop :=
  WordStoreFaults (exec i s) (s.sp - 2) returnAddress { s with sp := s.sp - 2 } ∧
  (s.wordWritable (s.sp - 2) returnAddress → ∃ u t,
    busWrite (s.sp - 1) returnAddress.hi { s with sp := s.sp - 2 } = .ok u ∧
    busWrite (s.sp - 2) returnAddress.lo u = .ok t ∧ exec i s = .next (t.jumped s target cost))

/-- R336, R337, R341: CALL, CALL cc and RST; not taken, nothing is pushed. -/
def Obligations.CallsAndRestarts : Prop :=
  ∀ (s : State) (a : Word) (cc : Cond),
    CallsTo (.callA16 a) (s.pc + 3) a 6 s ∧
    (condHolds cc s → CallsTo (Instr.callCond cc a) (s.pc + 3) a 6 s) ∧
    (¬ condHolds cc s → exec (Instr.callCond cc a) s = .next (s.advanced s 3 3)) ∧
    (∀ t n, (t, n) ∈ [(RstTarget.t00, (0x00 : Word)), (.t08, 0x08), (.t10, 0x10), (.t18, 0x18), (.t20, 0x20),
      (.t28, 0x28), (.t30, 0x30), (.t38, 0x38)] → CallsTo (Instr.rst t) (s.pc + 1) n 4 s)

/-- R237, R338, R339, R340: RET, RET cc and RETI; RETI sets IME at once; not taken, nothing is read. -/
def Obligations.Returns : Prop :=
  ∀ (s : State) (cc : Cond),
    PopFaults .ret s ∧ PopFaults .reti s ∧ (condHolds cc s → PopFaults (Instr.retCond cc) s) ∧
    (s.readable s.sp → s.readable (s.sp + 1) → ∃ lo hi u, s.peek s.sp = .ok lo ∧
      (s.afterRead s.sp).peek (s.sp + 1) = .ok hi ∧
      u = { (s.afterRead s.sp).afterRead (s.sp + 1) with sp := s.sp + 2 } ∧
      exec .ret s = .next (u.jumped s (Word.ofBytes hi lo) 4) ∧
      (condHolds cc s → exec (Instr.retCond cc) s = .next (u.jumped s (Word.ofBytes hi lo) 5)) ∧
      exec .reti s = .next (({ u with ime := true, eiDelay := false } : State).jumped s (Word.ofBytes hi lo) 4)) ∧
    (¬ condHolds cc s → exec (Instr.retCond cc) s = .next (s.advanced s 1 2))

/-! ### System instructions -/

/-- R360, R363, R364: NOP, DI and EI. What follows EI's latch at the end of the next instruction's step is
`EiTakesEffectAfterTheNextInstruction`. -/
def Obligations.NopDiAndEi : Prop :=
  ∀ s : State, exec .nop s = .next (s.advanced s 1 1) ∧
    exec .di s = .next (({ s with ime := false, eiDelay := false } : State).advanced s 1 1) ∧
    exec .ei s = .next (({ s with eiDelay := true } : State).advanced s 1 1)

/-- R361, R362, R404: HALT and STOP set their latch, are no-ops under `HALT_MODEL = nop`, and HALT is refused in the HALT-bug
case. -/
def Obligations.HaltAndStop : Prop :=
  ∀ s : State,
    (s.config.haltModel = .stop →
      ¬ (s.config.interruptModel = .sm83 ∧ s.ime = false ∧ s.ieReg &&& s.ifReg &&& 0x1F ≠ 0) →
      exec .halt s = .next (({ s with halted := true } : State).advanced s 1 1)) ∧
    (s.config.haltModel = .stop → s.config.interruptModel = .sm83 → s.ime = false →
      s.ieReg &&& s.ifReg &&& 0x1F ≠ 0 → exec .halt s = .refused .haltBug) ∧
    (s.config.haltModel = .stop → exec .stop s = .next (({ s with stopped := true } : State).advanced s 2 1)) ∧
    (s.config.haltModel = .nop → exec .halt s = .next (s.advanced s 1 1) ∧ exec .stop s = .next (s.advanced s 2 1))

/-! ### Interrupts and the step -/

/-- R410, R411, R413, R414: under `INTERRUPT_MODEL = none` no interrupt is taken and neither latch is cleared before the fetch.
Under `sm83` none is taken, and the check changes nothing, where no enabled request among bits 0 to 4 is pending, or where IME
is 0 and the engine is not halted; a running engine's step is then the instruction at PC. -/
def Obligations.NoInterruptUnlessEnabledAndPending : Prop :=
  (∀ s : State, s.config.interruptModel = .none → interruptCheck s = .ok (false, s) ∧
    (∀ t, step s = .next t → (s.halted = true → t.halted = true) ∧ (s.stopped = true → t.stopped = true))) ∧
  ∀ s : State, s.config.interruptModel = .sm83 →
    (s.ieReg &&& s.ifReg &&& 0x1F = 0 → interruptCheck s = .ok (false, s)) ∧
    (s.ime = false → s.halted = false → interruptCheck s = .ok (false, s)) ∧
    (s.ieReg &&& s.ifReg &&& 0x1F = 0 ∨ s.ime = false → s.halted = false → s.stopped = false →
      step s = runInstruction s)

/-- R411, R412, R413: under `sm83` with IME = 1 and an enabled request, the step is the entry for the lowest request: its IF
bit cleared, IME and the delay latch 0, PC pushed high byte first, PC at the vector, 5 M-cycles, `halted` cleared. A pushed byte
that starts a DMA copy from the absent BIOS is the bus fatal. That the 5 is 20 units under `CYCLE_UNIT = T` (log 13), and that a
stopped engine takes the entry too (log 11), are the model's readings. -/
def Obligations.InterruptEntry : Prop :=
  ∀ (s r : State) (i : Nat), s.config.interruptModel = .sm83 → s.ime = true → i < 5 →
    (s.ieReg &&& s.ifReg).getLsbD i = true → (∀ j, j < i → (s.ieReg &&& s.ifReg).getLsbD j = false) →
    r = { s with halted := false, ifReg := s.ifReg &&& ~~~(1#8 <<< i), ime := false, eiDelay := false,
                 sp := s.sp - 2 } →
    WordStoreFaults (step s) (s.sp - 2) s.pc r ∧
    (s.wordWritable (s.sp - 2) s.pc →
      ∃ u t, busWrite (s.sp - 1) s.pc.hi r = .ok u ∧ busWrite (s.sp - 2) s.pc.lo u = .ok t ∧
        step s = .next (t.jumped s (BitVec.ofNat 16 (0x0040 + 8 * i)) 5))

/-- R411, R420: under `sm83` a pending enabled request wakes a halted engine even when IME = 0, and the step then runs the
instruction at PC; a halted or stopped engine for which no interrupt check applies changes nothing. That the outcome `Halted`
is a next state equal to the state is the model's form of it (log 4). -/
def Obligations.HaltedEngineWakesOrChangesNothing : Prop :=
  (∀ s : State, interruptCheck s = .ok (false, s) → s.halted = true ∨ s.stopped = true → step s = .next s) ∧
  ∀ s : State, s.config.interruptModel = .sm83 → s.ime = false → s.stopped = false → s.halted = true →
    (s.ieReg &&& s.ifReg &&& 0x1F ≠ 0 → step s = runInstruction { s with halted := false }) ∧
    (s.ieReg &&& s.ifReg &&& 0x1F = 0 → step s = .next s)

/-- Log 4 (the model's form of `Halted`, R420, R44): under `INTERRUPT_MODEL = none` the step of a state is that same state
exactly when the engine is halted or stopped; every other completed step charges cycles. -/
def Obligations.StepIsFixedExactlyWhenHalted : Prop :=
  ∀ s : State, s.config.interruptModel = .none →
    (step s = .next s ↔ s.halted = true ∨ s.stopped = true) ∧
    (s.halted = false → s.stopped = false → ∀ t, step s = .next t → s.cycles < t.cycles)

/-- R42, R160 step 7, R461: EI leaves IME as it was, and the next instruction's step ends with IME = 1 unless that
instruction is DI; RETI and DI take effect at once. -/
def Obligations.EiTakesEffectAfterTheNextInstruction : Prop :=
  ∀ (s u t : State) (i : Instr), s.runs → s.eiDelay = true → fetchInstr s = .ok (i, u) → exec i u = .next t →
    step s = .next (if i = .di ∨ i = .reti then t else { t with ime := true, eiDelay := false })

/-- R400, R404 over every instruction: where the overlay is readable, every instruction completes but HALT in the HALT-bug
case; elsewhere an instruction completes or is the bus fatal. -/
def Obligations.EveryInstructionCompletesOrStopsByName : Prop :=
  (∀ (i : Instr) (s : State), s.bootLatch = true ∨ s.bios ≠ none →
    ¬ (i = .halt ∧ s.config.haltModel = .stop ∧ s.config.interruptModel = .sm83 ∧ s.ime = false ∧
      s.ieReg &&& s.ifReg &&& 0x1F ≠ 0) → ∃ t, exec i s = .next t) ∧
  (∀ (i : Instr) (s : State) (x : Fault), exec i s = .fault x →
    ∃ a : Word, x = .biosAbsent a ∧ a.toNat ≤ 0x00FF ∧ s.bootLatch = false ∧ s.bios = none) ∧
  (∀ (i : Instr) (s : State) (x : Refusal), exec i s = .refused x → i = .halt ∧ x = .haltBug)

/-- R41, R42, R43 over every instruction: only DI and RETI write IME, only EI, DI and RETI the delay latch, only HALT sets
`halted` and only STOP sets `stopped`. -/
def Obligations.OnlySystemInstructionsWriteControlLatches : Prop :=
  ∀ (i : Instr) (s t : State), exec i s = .next t →
    (i ≠ .di → i ≠ .reti → t.ime = s.ime) ∧ (i ≠ .ei → i ≠ .di → i ≠ .reti → t.eiDelay = s.eiDelay) ∧
    (i ≠ .halt → t.halted = s.halted) ∧ (i ≠ .stop → t.stopped = s.stopped)

/-- R40 over every instruction: outside the writers of R40, F keeps its value. -/
def Obligations.OnlyTheListedInstructionsWriteFlags : Prop :=
  ∀ (i : Instr) (s t : State), exec i s = .next t →
    (∀ op src, i ≠ Instr.alu op src) → (∀ o, i ≠ Instr.inc8 o ∧ i ≠ Instr.dec8 o) →
    i ∉ ([.daa, .cpl, .scf, .ccf, .rlca, .rrca, .rla, .rra, .popAf] : List Instr) →
    (∀ p, i ≠ Instr.addHl p) → (∀ e, i ≠ .addSpE8 e ∧ i ≠ .ldHlSpE8 e) →
    (∀ op o, i ≠ Instr.shift op o) → (∀ b o, i ≠ Instr.bit b o) → t.f = s.f

/-- R33 over every instruction: outside the writers R33 names, SP keeps its value. -/
def Obligations.OnlyTheListedInstructionsWriteSp : Prop :=
  ∀ (i : Instr) (s t : State), exec i s = .next t →
    (∀ n, i ≠ .ldSpN16 n) → (∀ e, i ≠ .addSpE8 e) → i ∉ ([.ldSpHl, .incSp, .decSp, .ret, .reti] : List Instr) →
    (∀ q, i ≠ Instr.push q ∧ i ≠ Instr.pop q) → (∀ a, i ≠ .callA16 a) → (∀ cc a, i ≠ Instr.callCond cc a) →
    (∀ cc, i ≠ Instr.retCond cc) → (∀ r, i ≠ Instr.rst r) → t.sp = s.sp

/-- Frame of every instruction: what a read returns is unchanged at every address that no store of the instruction touches;
`storedAt` computes those addresses, and a form that stores nothing has none. -/
def Obligations.InstructionsChangeOnlyTheBytesTheyStore : Prop :=
  ∀ (i : Instr) (s t : State), exec i s = .next t →
    ∀ b, (∀ a ∈ storedAt i s, ¬ touches s.config a b) → t.peekAs s b = s.peek b

/-- R9, R45, R60, R61 over every step: the cartridge, the BIOS and the parameters never change, and the latch never falls. -/
def Obligations.StepKeepsReadOnlyStoresAndLatch : Prop :=
  ∀ s t : State, step s = .next t →
    t.cart = s.cart ∧ t.bios = s.bios ∧ t.config = s.config ∧ (s.bootLatch = true → t.bootLatch = true)

/-- R32, R49 and the canonical form over every step: the invariant is kept. -/
def Obligations.StepKeepsInvariant : Prop :=
  ∀ s t : State, s.Inv → step s = .next t → t.Inv

/-- R44, R470: nothing reads the cycle count. A step from a state with a larger count ends the same way, with the count larger
by as much. -/
def Obligations.CycleCountIsNeverRead : Prop :=
  ∀ (s : State) (n : Nat),
    step { s with cycles := s.cycles + n } =
      match step s with
      | .next t => .next { t with cycles := t.cycles + n }
      | .fault f => .fault f
      | .refused r => .refused r
end

