-- ==== Sys2Proof/Laws/Memory.lean ====
section
/-! SUPPORT. The laws of the byte stores: a read after a write, and the canonical form kept by every write. -/

namespace Sys2Proof.Machine

@[simp] theorem Memory.read_nil (a : Nat) : Memory.read [] a = unlistedByte := rfl

theorem Memory.read_cons (k : Nat) (w : Byte) (rest : Memory) (a : Nat) :
    Memory.read ((k, w) :: rest) a = if k = a then w else Memory.read rest a := rfl

theorem Memory.wfAbove_cons {k : Nat} {w : Byte} {rest : Memory} {lo : Nat} :
    Memory.wfAbove ((k, w) :: rest) lo = true ↔ lo < k ∧ w ≠ unlistedByte ∧ Memory.wfAbove rest k = true := by
  simp [Memory.wfAbove, and_assoc]

theorem Memory.wf_cons {k : Nat} {w : Byte} {rest : Memory} :
    Memory.wf ((k, w) :: rest) = true ↔ w ≠ unlistedByte ∧ Memory.wfAbove rest k = true := by
  simp [Memory.wf]

/-- A lower bound may be lowered. -/
theorem Memory.wfAbove_mono {m : Memory} {lo lo' : Nat} (h : Memory.wfAbove m lo = true) (hle : lo' ≤ lo) :
    Memory.wfAbove m lo' = true := by
  cases m with
  | nil => rfl
  | cons c rest =>
    obtain ⟨k, w⟩ := c
    rw [Memory.wfAbove_cons] at h ⊢
    exact ⟨by omega, h.2⟩

/-- An address at or below the bound is not listed. -/
theorem Memory.read_of_le {m : Memory} {lo a : Nat} (h : Memory.wfAbove m lo = true) (ha : a ≤ lo) :
    m.read a = unlistedByte := by
  induction m generalizing lo with
  | nil => rfl
  | cons c rest ih =>
    obtain ⟨k, w⟩ := c
    rw [Memory.wfAbove_cons] at h
    rw [Memory.read_cons, if_neg (by omega)]
    exact ih h.2.2 (by omega)

/-- The canonical form above a bound gives the canonical form. -/
theorem Memory.wf_of_wfAbove {m : Memory} {lo : Nat} (h : Memory.wfAbove m lo = true) : m.wf = true := by
  cases m with
  | nil => rfl
  | cons c rest =>
    obtain ⟨k, w⟩ := c
    rw [Memory.wfAbove_cons] at h
    exact Memory.wf_cons.2 h.2

/-- A write above the bound keeps the canonical form above the bound. -/
theorem Memory.write_wfAbove {m : Memory} {lo a : Nat} (v : Byte) (h : Memory.wfAbove m lo = true) (ha : lo < a) :
    Memory.wfAbove (m.write a v) lo = true := by
  induction m generalizing lo with
  | nil =>
    unfold Memory.write
    split
    · rfl
    · exact Memory.wfAbove_cons.2 ⟨ha, ‹_›, rfl⟩
  | cons c rest ih =>
    obtain ⟨k, w⟩ := c
    rw [Memory.wfAbove_cons] at h
    obtain ⟨hk, hw, hr⟩ := h
    unfold Memory.write
    split
    · exact Memory.wfAbove_cons.2 ⟨hk, hw, ih hr ‹_›⟩
    · split
      · rename_i heq
        split
        · exact Memory.wfAbove_mono hr (by omega)
        · exact Memory.wfAbove_cons.2 ⟨ha, ‹_›, heq ▸ hr⟩
      · split
        · exact Memory.wfAbove_cons.2 ⟨hk, hw, hr⟩
        · exact Memory.wfAbove_cons.2 ⟨ha, ‹_›, Memory.wfAbove_cons.2 ⟨by omega, hw, hr⟩⟩

/-- Every write keeps the canonical form. -/
theorem Memory.write_wf {m : Memory} (a : Nat) (v : Byte) (h : m.wf = true) : (m.write a v).wf = true := by
  cases m with
  | nil =>
    unfold Memory.write
    split
    · rfl
    · exact Memory.wf_cons.2 ⟨‹_›, rfl⟩
  | cons c rest =>
    obtain ⟨k, w⟩ := c
    rw [Memory.wf_cons] at h
    obtain ⟨hw, hr⟩ := h
    unfold Memory.write
    split
    · exact Memory.wf_cons.2 ⟨hw, Memory.write_wfAbove v hr ‹_›⟩
    · split
      · rename_i heq
        split
        · exact Memory.wf_of_wfAbove hr
        · exact Memory.wf_cons.2 ⟨‹_›, heq ▸ hr⟩
      · split
        · exact Memory.wf_cons.2 ⟨hw, hr⟩
        · exact Memory.wf_cons.2 ⟨‹_›, Memory.wfAbove_cons.2 ⟨by omega, hw, hr⟩⟩

/-- A read of another address does not see a write. -/
theorem Memory.read_write_other (m : Memory) {a b : Nat} (v : Byte) (hab : b ≠ a) : (m.write a v).read b = m.read b := by
  induction m with
  | nil =>
    unfold Memory.write
    split
    · rfl
    · rw [Memory.read_cons, if_neg (Ne.symm hab)]
  | cons c rest ih =>
    obtain ⟨k, w⟩ := c
    unfold Memory.write
    split
    · rw [Memory.read_cons, Memory.read_cons, ih]
    · split
      · rename_i heq
        split
        · rw [Memory.read_cons, if_neg (heq ▸ Ne.symm hab)]
        · rw [Memory.read_cons, Memory.read_cons, if_neg (Ne.symm hab), if_neg (heq ▸ Ne.symm hab)]
      · split
        · rfl
        · rw [Memory.read_cons, if_neg (Ne.symm hab)]

/-- A read after a write to the same address gives the value written, in a store in canonical form. -/
theorem Memory.read_write_same {m : Memory} (a : Nat) (v : Byte) (h : m.wf = true) : (m.write a v).read a = v := by
  induction m with
  | nil =>
    unfold Memory.write
    split
    · rename_i hv; simp [hv]
    · simp [Memory.read_cons]
  | cons c rest ih =>
    obtain ⟨k, w⟩ := c
    obtain ⟨-, hr⟩ := Memory.wf_cons.1 h
    unfold Memory.write
    split
    · rw [Memory.read_cons, if_neg (by omega)]
      exact ih (Memory.wf_of_wfAbove hr)
    · split
      · split
        · rename_i hv
          rw [hv]
          exact Memory.read_of_le hr (by omega)
        · simp [Memory.read_cons]
      · split
        · rename_i hv
          rw [hv, Memory.read_cons, if_neg ‹_›]
          exact Memory.read_of_le hr (by omega)
        · simp [Memory.read_cons]

/-- A cell of the store after a write is the cell written, or was there before. -/
theorem Memory.mem_write {m : Memory} {a k : Nat} {v w : Byte} (h : (k, w) ∈ m.write a v) :
    (k = a ∧ w = v) ∨ (k, w) ∈ m := by
  induction m with
  | nil =>
    unfold Memory.write at h
    split at h
    · simp at h
    · simp at h; exact .inl h
  | cons c rest ih =>
    obtain ⟨k', w'⟩ := c
    unfold Memory.write at h
    split at h
    · rcases List.mem_cons.1 h with h | h
      · exact .inr (h ▸ List.mem_cons_self ..)
      · rcases ih h with h | h
        · exact .inl h
        · exact .inr (List.mem_cons_of_mem _ h)
    · split at h
      · split at h
        · exact .inr (List.mem_cons_of_mem _ h)
        · rcases List.mem_cons.1 h with h | h
          · exact .inl (by simpa using h)
          · exact .inr (List.mem_cons_of_mem _ h)
      · split at h
        · exact .inr h
        · rcases List.mem_cons.1 h with h | h
          · exact .inl (by simpa using h)
          · exact .inr h

end Sys2Proof.Machine
end

