-- ==== Sys2Proof/Laws/State.lean ====
section
/-! SUPPORT. One lemma per field and update: what each named update of State leaves in each field. -/

namespace Sys2Proof.Machine

@[simp] theorem State.setF_a (s : State) (v : Byte) : (s.setF v).a = s.a := rfl
@[simp] theorem State.setF_f (s : State) (v : Byte) : (s.setF v).f = v := rfl
@[simp] theorem State.setF_b (s : State) (v : Byte) : (s.setF v).b = s.b := rfl
@[simp] theorem State.setF_c (s : State) (v : Byte) : (s.setF v).c = s.c := rfl
@[simp] theorem State.setF_d (s : State) (v : Byte) : (s.setF v).d = s.d := rfl
@[simp] theorem State.setF_e (s : State) (v : Byte) : (s.setF v).e = s.e := rfl
@[simp] theorem State.setF_h (s : State) (v : Byte) : (s.setF v).h = s.h := rfl
@[simp] theorem State.setF_l (s : State) (v : Byte) : (s.setF v).l = s.l := rfl
@[simp] theorem State.setF_sp (s : State) (v : Byte) : (s.setF v).sp = s.sp := rfl
@[simp] theorem State.setF_pc (s : State) (v : Byte) : (s.setF v).pc = s.pc := rfl
@[simp] theorem State.setF_ime (s : State) (v : Byte) : (s.setF v).ime = s.ime := rfl
@[simp] theorem State.setF_eiDelay (s : State) (v : Byte) : (s.setF v).eiDelay = s.eiDelay := rfl
@[simp] theorem State.setF_halted (s : State) (v : Byte) : (s.setF v).halted = s.halted := rfl
@[simp] theorem State.setF_stopped (s : State) (v : Byte) : (s.setF v).stopped = s.stopped := rfl
@[simp] theorem State.setF_cycles (s : State) (v : Byte) : (s.setF v).cycles = s.cycles := rfl
@[simp] theorem State.setF_bootLatch (s : State) (v : Byte) : (s.setF v).bootLatch = s.bootLatch := rfl
@[simp] theorem State.setF_ifReg (s : State) (v : Byte) : (s.setF v).ifReg = s.ifReg := rfl
@[simp] theorem State.setF_ieReg (s : State) (v : Byte) : (s.setF v).ieReg = s.ieReg := rfl
@[simp] theorem State.setF_keypadStub (s : State) (v : Byte) : (s.setF v).keypadStub = s.keypadStub := rfl
@[simp] theorem State.setF_mem (s : State) (v : Byte) : (s.setF v).mem = s.mem := rfl
@[simp] theorem State.setF_gpu (s : State) (v : Byte) : (s.setF v).gpu = s.gpu := rfl
@[simp] theorem State.setF_cart (s : State) (v : Byte) : (s.setF v).cart = s.cart := rfl
@[simp] theorem State.setF_bios (s : State) (v : Byte) : (s.setF v).bios = s.bios := rfl
@[simp] theorem State.setF_config (s : State) (v : Byte) : (s.setF v).config = s.config := rfl
@[simp] theorem State.setF_draws (s : State) (v : Byte) : (s.setF v).draws = s.draws := rfl

@[simp] theorem State.setSp_a (s : State) (v : Word) : (s.setSp v).a = s.a := rfl
@[simp] theorem State.setSp_f (s : State) (v : Word) : (s.setSp v).f = s.f := rfl
@[simp] theorem State.setSp_b (s : State) (v : Word) : (s.setSp v).b = s.b := rfl
@[simp] theorem State.setSp_c (s : State) (v : Word) : (s.setSp v).c = s.c := rfl
@[simp] theorem State.setSp_d (s : State) (v : Word) : (s.setSp v).d = s.d := rfl
@[simp] theorem State.setSp_e (s : State) (v : Word) : (s.setSp v).e = s.e := rfl
@[simp] theorem State.setSp_h (s : State) (v : Word) : (s.setSp v).h = s.h := rfl
@[simp] theorem State.setSp_l (s : State) (v : Word) : (s.setSp v).l = s.l := rfl
@[simp] theorem State.setSp_sp (s : State) (v : Word) : (s.setSp v).sp = v := rfl
@[simp] theorem State.setSp_pc (s : State) (v : Word) : (s.setSp v).pc = s.pc := rfl
@[simp] theorem State.setSp_ime (s : State) (v : Word) : (s.setSp v).ime = s.ime := rfl
@[simp] theorem State.setSp_eiDelay (s : State) (v : Word) : (s.setSp v).eiDelay = s.eiDelay := rfl
@[simp] theorem State.setSp_halted (s : State) (v : Word) : (s.setSp v).halted = s.halted := rfl
@[simp] theorem State.setSp_stopped (s : State) (v : Word) : (s.setSp v).stopped = s.stopped := rfl
@[simp] theorem State.setSp_cycles (s : State) (v : Word) : (s.setSp v).cycles = s.cycles := rfl
@[simp] theorem State.setSp_bootLatch (s : State) (v : Word) : (s.setSp v).bootLatch = s.bootLatch := rfl
@[simp] theorem State.setSp_ifReg (s : State) (v : Word) : (s.setSp v).ifReg = s.ifReg := rfl
@[simp] theorem State.setSp_ieReg (s : State) (v : Word) : (s.setSp v).ieReg = s.ieReg := rfl
@[simp] theorem State.setSp_keypadStub (s : State) (v : Word) : (s.setSp v).keypadStub = s.keypadStub := rfl
@[simp] theorem State.setSp_mem (s : State) (v : Word) : (s.setSp v).mem = s.mem := rfl
@[simp] theorem State.setSp_gpu (s : State) (v : Word) : (s.setSp v).gpu = s.gpu := rfl
@[simp] theorem State.setSp_cart (s : State) (v : Word) : (s.setSp v).cart = s.cart := rfl
@[simp] theorem State.setSp_bios (s : State) (v : Word) : (s.setSp v).bios = s.bios := rfl
@[simp] theorem State.setSp_config (s : State) (v : Word) : (s.setSp v).config = s.config := rfl
@[simp] theorem State.setSp_draws (s : State) (v : Word) : (s.setSp v).draws = s.draws := rfl

@[simp] theorem State.setPc_a (s : State) (v : Word) : (s.setPc v).a = s.a := rfl
@[simp] theorem State.setPc_f (s : State) (v : Word) : (s.setPc v).f = s.f := rfl
@[simp] theorem State.setPc_b (s : State) (v : Word) : (s.setPc v).b = s.b := rfl
@[simp] theorem State.setPc_c (s : State) (v : Word) : (s.setPc v).c = s.c := rfl
@[simp] theorem State.setPc_d (s : State) (v : Word) : (s.setPc v).d = s.d := rfl
@[simp] theorem State.setPc_e (s : State) (v : Word) : (s.setPc v).e = s.e := rfl
@[simp] theorem State.setPc_h (s : State) (v : Word) : (s.setPc v).h = s.h := rfl
@[simp] theorem State.setPc_l (s : State) (v : Word) : (s.setPc v).l = s.l := rfl
@[simp] theorem State.setPc_sp (s : State) (v : Word) : (s.setPc v).sp = s.sp := rfl
@[simp] theorem State.setPc_pc (s : State) (v : Word) : (s.setPc v).pc = v := rfl
@[simp] theorem State.setPc_ime (s : State) (v : Word) : (s.setPc v).ime = s.ime := rfl
@[simp] theorem State.setPc_eiDelay (s : State) (v : Word) : (s.setPc v).eiDelay = s.eiDelay := rfl
@[simp] theorem State.setPc_halted (s : State) (v : Word) : (s.setPc v).halted = s.halted := rfl
@[simp] theorem State.setPc_stopped (s : State) (v : Word) : (s.setPc v).stopped = s.stopped := rfl
@[simp] theorem State.setPc_cycles (s : State) (v : Word) : (s.setPc v).cycles = s.cycles := rfl
@[simp] theorem State.setPc_bootLatch (s : State) (v : Word) : (s.setPc v).bootLatch = s.bootLatch := rfl
@[simp] theorem State.setPc_ifReg (s : State) (v : Word) : (s.setPc v).ifReg = s.ifReg := rfl
@[simp] theorem State.setPc_ieReg (s : State) (v : Word) : (s.setPc v).ieReg = s.ieReg := rfl
@[simp] theorem State.setPc_keypadStub (s : State) (v : Word) : (s.setPc v).keypadStub = s.keypadStub := rfl
@[simp] theorem State.setPc_mem (s : State) (v : Word) : (s.setPc v).mem = s.mem := rfl
@[simp] theorem State.setPc_gpu (s : State) (v : Word) : (s.setPc v).gpu = s.gpu := rfl
@[simp] theorem State.setPc_cart (s : State) (v : Word) : (s.setPc v).cart = s.cart := rfl
@[simp] theorem State.setPc_bios (s : State) (v : Word) : (s.setPc v).bios = s.bios := rfl
@[simp] theorem State.setPc_config (s : State) (v : Word) : (s.setPc v).config = s.config := rfl
@[simp] theorem State.setPc_draws (s : State) (v : Word) : (s.setPc v).draws = s.draws := rfl

@[simp] theorem State.setIme_a (s : State) (v : Bool) : (s.setIme v).a = s.a := rfl
@[simp] theorem State.setIme_f (s : State) (v : Bool) : (s.setIme v).f = s.f := rfl
@[simp] theorem State.setIme_b (s : State) (v : Bool) : (s.setIme v).b = s.b := rfl
@[simp] theorem State.setIme_c (s : State) (v : Bool) : (s.setIme v).c = s.c := rfl
@[simp] theorem State.setIme_d (s : State) (v : Bool) : (s.setIme v).d = s.d := rfl
@[simp] theorem State.setIme_e (s : State) (v : Bool) : (s.setIme v).e = s.e := rfl
@[simp] theorem State.setIme_h (s : State) (v : Bool) : (s.setIme v).h = s.h := rfl
@[simp] theorem State.setIme_l (s : State) (v : Bool) : (s.setIme v).l = s.l := rfl
@[simp] theorem State.setIme_sp (s : State) (v : Bool) : (s.setIme v).sp = s.sp := rfl
@[simp] theorem State.setIme_pc (s : State) (v : Bool) : (s.setIme v).pc = s.pc := rfl
@[simp] theorem State.setIme_ime (s : State) (v : Bool) : (s.setIme v).ime = v := rfl
@[simp] theorem State.setIme_eiDelay (s : State) (v : Bool) : (s.setIme v).eiDelay = s.eiDelay := rfl
@[simp] theorem State.setIme_halted (s : State) (v : Bool) : (s.setIme v).halted = s.halted := rfl
@[simp] theorem State.setIme_stopped (s : State) (v : Bool) : (s.setIme v).stopped = s.stopped := rfl
@[simp] theorem State.setIme_cycles (s : State) (v : Bool) : (s.setIme v).cycles = s.cycles := rfl
@[simp] theorem State.setIme_bootLatch (s : State) (v : Bool) : (s.setIme v).bootLatch = s.bootLatch := rfl
@[simp] theorem State.setIme_ifReg (s : State) (v : Bool) : (s.setIme v).ifReg = s.ifReg := rfl
@[simp] theorem State.setIme_ieReg (s : State) (v : Bool) : (s.setIme v).ieReg = s.ieReg := rfl
@[simp] theorem State.setIme_keypadStub (s : State) (v : Bool) : (s.setIme v).keypadStub = s.keypadStub := rfl
@[simp] theorem State.setIme_mem (s : State) (v : Bool) : (s.setIme v).mem = s.mem := rfl
@[simp] theorem State.setIme_gpu (s : State) (v : Bool) : (s.setIme v).gpu = s.gpu := rfl
@[simp] theorem State.setIme_cart (s : State) (v : Bool) : (s.setIme v).cart = s.cart := rfl
@[simp] theorem State.setIme_bios (s : State) (v : Bool) : (s.setIme v).bios = s.bios := rfl
@[simp] theorem State.setIme_config (s : State) (v : Bool) : (s.setIme v).config = s.config := rfl
@[simp] theorem State.setIme_draws (s : State) (v : Bool) : (s.setIme v).draws = s.draws := rfl

@[simp] theorem State.setEiDelay_a (s : State) (v : Bool) : (s.setEiDelay v).a = s.a := rfl
@[simp] theorem State.setEiDelay_f (s : State) (v : Bool) : (s.setEiDelay v).f = s.f := rfl
@[simp] theorem State.setEiDelay_b (s : State) (v : Bool) : (s.setEiDelay v).b = s.b := rfl
@[simp] theorem State.setEiDelay_c (s : State) (v : Bool) : (s.setEiDelay v).c = s.c := rfl
@[simp] theorem State.setEiDelay_d (s : State) (v : Bool) : (s.setEiDelay v).d = s.d := rfl
@[simp] theorem State.setEiDelay_e (s : State) (v : Bool) : (s.setEiDelay v).e = s.e := rfl
@[simp] theorem State.setEiDelay_h (s : State) (v : Bool) : (s.setEiDelay v).h = s.h := rfl
@[simp] theorem State.setEiDelay_l (s : State) (v : Bool) : (s.setEiDelay v).l = s.l := rfl
@[simp] theorem State.setEiDelay_sp (s : State) (v : Bool) : (s.setEiDelay v).sp = s.sp := rfl
@[simp] theorem State.setEiDelay_pc (s : State) (v : Bool) : (s.setEiDelay v).pc = s.pc := rfl
@[simp] theorem State.setEiDelay_ime (s : State) (v : Bool) : (s.setEiDelay v).ime = s.ime := rfl
@[simp] theorem State.setEiDelay_eiDelay (s : State) (v : Bool) : (s.setEiDelay v).eiDelay = v := rfl
@[simp] theorem State.setEiDelay_halted (s : State) (v : Bool) : (s.setEiDelay v).halted = s.halted := rfl
@[simp] theorem State.setEiDelay_stopped (s : State) (v : Bool) : (s.setEiDelay v).stopped = s.stopped := rfl
@[simp] theorem State.setEiDelay_cycles (s : State) (v : Bool) : (s.setEiDelay v).cycles = s.cycles := rfl
@[simp] theorem State.setEiDelay_bootLatch (s : State) (v : Bool) : (s.setEiDelay v).bootLatch = s.bootLatch := rfl
@[simp] theorem State.setEiDelay_ifReg (s : State) (v : Bool) : (s.setEiDelay v).ifReg = s.ifReg := rfl
@[simp] theorem State.setEiDelay_ieReg (s : State) (v : Bool) : (s.setEiDelay v).ieReg = s.ieReg := rfl
@[simp] theorem State.setEiDelay_keypadStub (s : State) (v : Bool) : (s.setEiDelay v).keypadStub = s.keypadStub := rfl
@[simp] theorem State.setEiDelay_mem (s : State) (v : Bool) : (s.setEiDelay v).mem = s.mem := rfl
@[simp] theorem State.setEiDelay_gpu (s : State) (v : Bool) : (s.setEiDelay v).gpu = s.gpu := rfl
@[simp] theorem State.setEiDelay_cart (s : State) (v : Bool) : (s.setEiDelay v).cart = s.cart := rfl
@[simp] theorem State.setEiDelay_bios (s : State) (v : Bool) : (s.setEiDelay v).bios = s.bios := rfl
@[simp] theorem State.setEiDelay_config (s : State) (v : Bool) : (s.setEiDelay v).config = s.config := rfl
@[simp] theorem State.setEiDelay_draws (s : State) (v : Bool) : (s.setEiDelay v).draws = s.draws := rfl

@[simp] theorem State.setHalted_a (s : State) (v : Bool) : (s.setHalted v).a = s.a := rfl
@[simp] theorem State.setHalted_f (s : State) (v : Bool) : (s.setHalted v).f = s.f := rfl
@[simp] theorem State.setHalted_b (s : State) (v : Bool) : (s.setHalted v).b = s.b := rfl
@[simp] theorem State.setHalted_c (s : State) (v : Bool) : (s.setHalted v).c = s.c := rfl
@[simp] theorem State.setHalted_d (s : State) (v : Bool) : (s.setHalted v).d = s.d := rfl
@[simp] theorem State.setHalted_e (s : State) (v : Bool) : (s.setHalted v).e = s.e := rfl
@[simp] theorem State.setHalted_h (s : State) (v : Bool) : (s.setHalted v).h = s.h := rfl
@[simp] theorem State.setHalted_l (s : State) (v : Bool) : (s.setHalted v).l = s.l := rfl
@[simp] theorem State.setHalted_sp (s : State) (v : Bool) : (s.setHalted v).sp = s.sp := rfl
@[simp] theorem State.setHalted_pc (s : State) (v : Bool) : (s.setHalted v).pc = s.pc := rfl
@[simp] theorem State.setHalted_ime (s : State) (v : Bool) : (s.setHalted v).ime = s.ime := rfl
@[simp] theorem State.setHalted_eiDelay (s : State) (v : Bool) : (s.setHalted v).eiDelay = s.eiDelay := rfl
@[simp] theorem State.setHalted_halted (s : State) (v : Bool) : (s.setHalted v).halted = v := rfl
@[simp] theorem State.setHalted_stopped (s : State) (v : Bool) : (s.setHalted v).stopped = s.stopped := rfl
@[simp] theorem State.setHalted_cycles (s : State) (v : Bool) : (s.setHalted v).cycles = s.cycles := rfl
@[simp] theorem State.setHalted_bootLatch (s : State) (v : Bool) : (s.setHalted v).bootLatch = s.bootLatch := rfl
@[simp] theorem State.setHalted_ifReg (s : State) (v : Bool) : (s.setHalted v).ifReg = s.ifReg := rfl
@[simp] theorem State.setHalted_ieReg (s : State) (v : Bool) : (s.setHalted v).ieReg = s.ieReg := rfl
@[simp] theorem State.setHalted_keypadStub (s : State) (v : Bool) : (s.setHalted v).keypadStub = s.keypadStub := rfl
@[simp] theorem State.setHalted_mem (s : State) (v : Bool) : (s.setHalted v).mem = s.mem := rfl
@[simp] theorem State.setHalted_gpu (s : State) (v : Bool) : (s.setHalted v).gpu = s.gpu := rfl
@[simp] theorem State.setHalted_cart (s : State) (v : Bool) : (s.setHalted v).cart = s.cart := rfl
@[simp] theorem State.setHalted_bios (s : State) (v : Bool) : (s.setHalted v).bios = s.bios := rfl
@[simp] theorem State.setHalted_config (s : State) (v : Bool) : (s.setHalted v).config = s.config := rfl
@[simp] theorem State.setHalted_draws (s : State) (v : Bool) : (s.setHalted v).draws = s.draws := rfl

@[simp] theorem State.setStopped_a (s : State) (v : Bool) : (s.setStopped v).a = s.a := rfl
@[simp] theorem State.setStopped_f (s : State) (v : Bool) : (s.setStopped v).f = s.f := rfl
@[simp] theorem State.setStopped_b (s : State) (v : Bool) : (s.setStopped v).b = s.b := rfl
@[simp] theorem State.setStopped_c (s : State) (v : Bool) : (s.setStopped v).c = s.c := rfl
@[simp] theorem State.setStopped_d (s : State) (v : Bool) : (s.setStopped v).d = s.d := rfl
@[simp] theorem State.setStopped_e (s : State) (v : Bool) : (s.setStopped v).e = s.e := rfl
@[simp] theorem State.setStopped_h (s : State) (v : Bool) : (s.setStopped v).h = s.h := rfl
@[simp] theorem State.setStopped_l (s : State) (v : Bool) : (s.setStopped v).l = s.l := rfl
@[simp] theorem State.setStopped_sp (s : State) (v : Bool) : (s.setStopped v).sp = s.sp := rfl
@[simp] theorem State.setStopped_pc (s : State) (v : Bool) : (s.setStopped v).pc = s.pc := rfl
@[simp] theorem State.setStopped_ime (s : State) (v : Bool) : (s.setStopped v).ime = s.ime := rfl
@[simp] theorem State.setStopped_eiDelay (s : State) (v : Bool) : (s.setStopped v).eiDelay = s.eiDelay := rfl
@[simp] theorem State.setStopped_halted (s : State) (v : Bool) : (s.setStopped v).halted = s.halted := rfl
@[simp] theorem State.setStopped_stopped (s : State) (v : Bool) : (s.setStopped v).stopped = v := rfl
@[simp] theorem State.setStopped_cycles (s : State) (v : Bool) : (s.setStopped v).cycles = s.cycles := rfl
@[simp] theorem State.setStopped_bootLatch (s : State) (v : Bool) : (s.setStopped v).bootLatch = s.bootLatch := rfl
@[simp] theorem State.setStopped_ifReg (s : State) (v : Bool) : (s.setStopped v).ifReg = s.ifReg := rfl
@[simp] theorem State.setStopped_ieReg (s : State) (v : Bool) : (s.setStopped v).ieReg = s.ieReg := rfl
@[simp] theorem State.setStopped_keypadStub (s : State) (v : Bool) : (s.setStopped v).keypadStub = s.keypadStub := rfl
@[simp] theorem State.setStopped_mem (s : State) (v : Bool) : (s.setStopped v).mem = s.mem := rfl
@[simp] theorem State.setStopped_gpu (s : State) (v : Bool) : (s.setStopped v).gpu = s.gpu := rfl
@[simp] theorem State.setStopped_cart (s : State) (v : Bool) : (s.setStopped v).cart = s.cart := rfl
@[simp] theorem State.setStopped_bios (s : State) (v : Bool) : (s.setStopped v).bios = s.bios := rfl
@[simp] theorem State.setStopped_config (s : State) (v : Bool) : (s.setStopped v).config = s.config := rfl
@[simp] theorem State.setStopped_draws (s : State) (v : Bool) : (s.setStopped v).draws = s.draws := rfl

@[simp] theorem State.addCycles_a (s : State) (v : Nat) : (s.addCycles v).a = s.a := rfl
@[simp] theorem State.addCycles_f (s : State) (v : Nat) : (s.addCycles v).f = s.f := rfl
@[simp] theorem State.addCycles_b (s : State) (v : Nat) : (s.addCycles v).b = s.b := rfl
@[simp] theorem State.addCycles_c (s : State) (v : Nat) : (s.addCycles v).c = s.c := rfl
@[simp] theorem State.addCycles_d (s : State) (v : Nat) : (s.addCycles v).d = s.d := rfl
@[simp] theorem State.addCycles_e (s : State) (v : Nat) : (s.addCycles v).e = s.e := rfl
@[simp] theorem State.addCycles_h (s : State) (v : Nat) : (s.addCycles v).h = s.h := rfl
@[simp] theorem State.addCycles_l (s : State) (v : Nat) : (s.addCycles v).l = s.l := rfl
@[simp] theorem State.addCycles_sp (s : State) (v : Nat) : (s.addCycles v).sp = s.sp := rfl
@[simp] theorem State.addCycles_pc (s : State) (v : Nat) : (s.addCycles v).pc = s.pc := rfl
@[simp] theorem State.addCycles_ime (s : State) (v : Nat) : (s.addCycles v).ime = s.ime := rfl
@[simp] theorem State.addCycles_eiDelay (s : State) (v : Nat) : (s.addCycles v).eiDelay = s.eiDelay := rfl
@[simp] theorem State.addCycles_halted (s : State) (v : Nat) : (s.addCycles v).halted = s.halted := rfl
@[simp] theorem State.addCycles_stopped (s : State) (v : Nat) : (s.addCycles v).stopped = s.stopped := rfl
@[simp] theorem State.addCycles_cycles (s : State) (v : Nat) : (s.addCycles v).cycles = s.cycles + v := rfl
@[simp] theorem State.addCycles_bootLatch (s : State) (v : Nat) : (s.addCycles v).bootLatch = s.bootLatch := rfl
@[simp] theorem State.addCycles_ifReg (s : State) (v : Nat) : (s.addCycles v).ifReg = s.ifReg := rfl
@[simp] theorem State.addCycles_ieReg (s : State) (v : Nat) : (s.addCycles v).ieReg = s.ieReg := rfl
@[simp] theorem State.addCycles_keypadStub (s : State) (v : Nat) : (s.addCycles v).keypadStub = s.keypadStub := rfl
@[simp] theorem State.addCycles_mem (s : State) (v : Nat) : (s.addCycles v).mem = s.mem := rfl
@[simp] theorem State.addCycles_gpu (s : State) (v : Nat) : (s.addCycles v).gpu = s.gpu := rfl
@[simp] theorem State.addCycles_cart (s : State) (v : Nat) : (s.addCycles v).cart = s.cart := rfl
@[simp] theorem State.addCycles_bios (s : State) (v : Nat) : (s.addCycles v).bios = s.bios := rfl
@[simp] theorem State.addCycles_config (s : State) (v : Nat) : (s.addCycles v).config = s.config := rfl
@[simp] theorem State.addCycles_draws (s : State) (v : Nat) : (s.addCycles v).draws = s.draws := rfl

@[simp] theorem State.setBootLatch_a (s : State) (v : Bool) : (s.setBootLatch v).a = s.a := rfl
@[simp] theorem State.setBootLatch_f (s : State) (v : Bool) : (s.setBootLatch v).f = s.f := rfl
@[simp] theorem State.setBootLatch_b (s : State) (v : Bool) : (s.setBootLatch v).b = s.b := rfl
@[simp] theorem State.setBootLatch_c (s : State) (v : Bool) : (s.setBootLatch v).c = s.c := rfl
@[simp] theorem State.setBootLatch_d (s : State) (v : Bool) : (s.setBootLatch v).d = s.d := rfl
@[simp] theorem State.setBootLatch_e (s : State) (v : Bool) : (s.setBootLatch v).e = s.e := rfl
@[simp] theorem State.setBootLatch_h (s : State) (v : Bool) : (s.setBootLatch v).h = s.h := rfl
@[simp] theorem State.setBootLatch_l (s : State) (v : Bool) : (s.setBootLatch v).l = s.l := rfl
@[simp] theorem State.setBootLatch_sp (s : State) (v : Bool) : (s.setBootLatch v).sp = s.sp := rfl
@[simp] theorem State.setBootLatch_pc (s : State) (v : Bool) : (s.setBootLatch v).pc = s.pc := rfl
@[simp] theorem State.setBootLatch_ime (s : State) (v : Bool) : (s.setBootLatch v).ime = s.ime := rfl
@[simp] theorem State.setBootLatch_eiDelay (s : State) (v : Bool) : (s.setBootLatch v).eiDelay = s.eiDelay := rfl
@[simp] theorem State.setBootLatch_halted (s : State) (v : Bool) : (s.setBootLatch v).halted = s.halted := rfl
@[simp] theorem State.setBootLatch_stopped (s : State) (v : Bool) : (s.setBootLatch v).stopped = s.stopped := rfl
@[simp] theorem State.setBootLatch_cycles (s : State) (v : Bool) : (s.setBootLatch v).cycles = s.cycles := rfl
@[simp] theorem State.setBootLatch_bootLatch (s : State) (v : Bool) : (s.setBootLatch v).bootLatch = v := rfl
@[simp] theorem State.setBootLatch_ifReg (s : State) (v : Bool) : (s.setBootLatch v).ifReg = s.ifReg := rfl
@[simp] theorem State.setBootLatch_ieReg (s : State) (v : Bool) : (s.setBootLatch v).ieReg = s.ieReg := rfl
@[simp] theorem State.setBootLatch_keypadStub (s : State) (v : Bool) : (s.setBootLatch v).keypadStub = s.keypadStub := rfl
@[simp] theorem State.setBootLatch_mem (s : State) (v : Bool) : (s.setBootLatch v).mem = s.mem := rfl
@[simp] theorem State.setBootLatch_gpu (s : State) (v : Bool) : (s.setBootLatch v).gpu = s.gpu := rfl
@[simp] theorem State.setBootLatch_cart (s : State) (v : Bool) : (s.setBootLatch v).cart = s.cart := rfl
@[simp] theorem State.setBootLatch_bios (s : State) (v : Bool) : (s.setBootLatch v).bios = s.bios := rfl
@[simp] theorem State.setBootLatch_config (s : State) (v : Bool) : (s.setBootLatch v).config = s.config := rfl
@[simp] theorem State.setBootLatch_draws (s : State) (v : Bool) : (s.setBootLatch v).draws = s.draws := rfl

@[simp] theorem State.setIf_a (s : State) (v : Byte) : (s.setIf v).a = s.a := rfl
@[simp] theorem State.setIf_f (s : State) (v : Byte) : (s.setIf v).f = s.f := rfl
@[simp] theorem State.setIf_b (s : State) (v : Byte) : (s.setIf v).b = s.b := rfl
@[simp] theorem State.setIf_c (s : State) (v : Byte) : (s.setIf v).c = s.c := rfl
@[simp] theorem State.setIf_d (s : State) (v : Byte) : (s.setIf v).d = s.d := rfl
@[simp] theorem State.setIf_e (s : State) (v : Byte) : (s.setIf v).e = s.e := rfl
@[simp] theorem State.setIf_h (s : State) (v : Byte) : (s.setIf v).h = s.h := rfl
@[simp] theorem State.setIf_l (s : State) (v : Byte) : (s.setIf v).l = s.l := rfl
@[simp] theorem State.setIf_sp (s : State) (v : Byte) : (s.setIf v).sp = s.sp := rfl
@[simp] theorem State.setIf_pc (s : State) (v : Byte) : (s.setIf v).pc = s.pc := rfl
@[simp] theorem State.setIf_ime (s : State) (v : Byte) : (s.setIf v).ime = s.ime := rfl
@[simp] theorem State.setIf_eiDelay (s : State) (v : Byte) : (s.setIf v).eiDelay = s.eiDelay := rfl
@[simp] theorem State.setIf_halted (s : State) (v : Byte) : (s.setIf v).halted = s.halted := rfl
@[simp] theorem State.setIf_stopped (s : State) (v : Byte) : (s.setIf v).stopped = s.stopped := rfl
@[simp] theorem State.setIf_cycles (s : State) (v : Byte) : (s.setIf v).cycles = s.cycles := rfl
@[simp] theorem State.setIf_bootLatch (s : State) (v : Byte) : (s.setIf v).bootLatch = s.bootLatch := rfl
@[simp] theorem State.setIf_ifReg (s : State) (v : Byte) : (s.setIf v).ifReg = v := rfl
@[simp] theorem State.setIf_ieReg (s : State) (v : Byte) : (s.setIf v).ieReg = s.ieReg := rfl
@[simp] theorem State.setIf_keypadStub (s : State) (v : Byte) : (s.setIf v).keypadStub = s.keypadStub := rfl
@[simp] theorem State.setIf_mem (s : State) (v : Byte) : (s.setIf v).mem = s.mem := rfl
@[simp] theorem State.setIf_gpu (s : State) (v : Byte) : (s.setIf v).gpu = s.gpu := rfl
@[simp] theorem State.setIf_cart (s : State) (v : Byte) : (s.setIf v).cart = s.cart := rfl
@[simp] theorem State.setIf_bios (s : State) (v : Byte) : (s.setIf v).bios = s.bios := rfl
@[simp] theorem State.setIf_config (s : State) (v : Byte) : (s.setIf v).config = s.config := rfl
@[simp] theorem State.setIf_draws (s : State) (v : Byte) : (s.setIf v).draws = s.draws := rfl

@[simp] theorem State.setIe_a (s : State) (v : Byte) : (s.setIe v).a = s.a := rfl
@[simp] theorem State.setIe_f (s : State) (v : Byte) : (s.setIe v).f = s.f := rfl
@[simp] theorem State.setIe_b (s : State) (v : Byte) : (s.setIe v).b = s.b := rfl
@[simp] theorem State.setIe_c (s : State) (v : Byte) : (s.setIe v).c = s.c := rfl
@[simp] theorem State.setIe_d (s : State) (v : Byte) : (s.setIe v).d = s.d := rfl
@[simp] theorem State.setIe_e (s : State) (v : Byte) : (s.setIe v).e = s.e := rfl
@[simp] theorem State.setIe_h (s : State) (v : Byte) : (s.setIe v).h = s.h := rfl
@[simp] theorem State.setIe_l (s : State) (v : Byte) : (s.setIe v).l = s.l := rfl
@[simp] theorem State.setIe_sp (s : State) (v : Byte) : (s.setIe v).sp = s.sp := rfl
@[simp] theorem State.setIe_pc (s : State) (v : Byte) : (s.setIe v).pc = s.pc := rfl
@[simp] theorem State.setIe_ime (s : State) (v : Byte) : (s.setIe v).ime = s.ime := rfl
@[simp] theorem State.setIe_eiDelay (s : State) (v : Byte) : (s.setIe v).eiDelay = s.eiDelay := rfl
@[simp] theorem State.setIe_halted (s : State) (v : Byte) : (s.setIe v).halted = s.halted := rfl
@[simp] theorem State.setIe_stopped (s : State) (v : Byte) : (s.setIe v).stopped = s.stopped := rfl
@[simp] theorem State.setIe_cycles (s : State) (v : Byte) : (s.setIe v).cycles = s.cycles := rfl
@[simp] theorem State.setIe_bootLatch (s : State) (v : Byte) : (s.setIe v).bootLatch = s.bootLatch := rfl
@[simp] theorem State.setIe_ifReg (s : State) (v : Byte) : (s.setIe v).ifReg = s.ifReg := rfl
@[simp] theorem State.setIe_ieReg (s : State) (v : Byte) : (s.setIe v).ieReg = v := rfl
@[simp] theorem State.setIe_keypadStub (s : State) (v : Byte) : (s.setIe v).keypadStub = s.keypadStub := rfl
@[simp] theorem State.setIe_mem (s : State) (v : Byte) : (s.setIe v).mem = s.mem := rfl
@[simp] theorem State.setIe_gpu (s : State) (v : Byte) : (s.setIe v).gpu = s.gpu := rfl
@[simp] theorem State.setIe_cart (s : State) (v : Byte) : (s.setIe v).cart = s.cart := rfl
@[simp] theorem State.setIe_bios (s : State) (v : Byte) : (s.setIe v).bios = s.bios := rfl
@[simp] theorem State.setIe_config (s : State) (v : Byte) : (s.setIe v).config = s.config := rfl
@[simp] theorem State.setIe_draws (s : State) (v : Byte) : (s.setIe v).draws = s.draws := rfl

@[simp] theorem State.setKeypadStub_a (s : State) (v : Byte) : (s.setKeypadStub v).a = s.a := rfl
@[simp] theorem State.setKeypadStub_f (s : State) (v : Byte) : (s.setKeypadStub v).f = s.f := rfl
@[simp] theorem State.setKeypadStub_b (s : State) (v : Byte) : (s.setKeypadStub v).b = s.b := rfl
@[simp] theorem State.setKeypadStub_c (s : State) (v : Byte) : (s.setKeypadStub v).c = s.c := rfl
@[simp] theorem State.setKeypadStub_d (s : State) (v : Byte) : (s.setKeypadStub v).d = s.d := rfl
@[simp] theorem State.setKeypadStub_e (s : State) (v : Byte) : (s.setKeypadStub v).e = s.e := rfl
@[simp] theorem State.setKeypadStub_h (s : State) (v : Byte) : (s.setKeypadStub v).h = s.h := rfl
@[simp] theorem State.setKeypadStub_l (s : State) (v : Byte) : (s.setKeypadStub v).l = s.l := rfl
@[simp] theorem State.setKeypadStub_sp (s : State) (v : Byte) : (s.setKeypadStub v).sp = s.sp := rfl
@[simp] theorem State.setKeypadStub_pc (s : State) (v : Byte) : (s.setKeypadStub v).pc = s.pc := rfl
@[simp] theorem State.setKeypadStub_ime (s : State) (v : Byte) : (s.setKeypadStub v).ime = s.ime := rfl
@[simp] theorem State.setKeypadStub_eiDelay (s : State) (v : Byte) : (s.setKeypadStub v).eiDelay = s.eiDelay := rfl
@[simp] theorem State.setKeypadStub_halted (s : State) (v : Byte) : (s.setKeypadStub v).halted = s.halted := rfl
@[simp] theorem State.setKeypadStub_stopped (s : State) (v : Byte) : (s.setKeypadStub v).stopped = s.stopped := rfl
@[simp] theorem State.setKeypadStub_cycles (s : State) (v : Byte) : (s.setKeypadStub v).cycles = s.cycles := rfl
@[simp] theorem State.setKeypadStub_bootLatch (s : State) (v : Byte) : (s.setKeypadStub v).bootLatch = s.bootLatch := rfl
@[simp] theorem State.setKeypadStub_ifReg (s : State) (v : Byte) : (s.setKeypadStub v).ifReg = s.ifReg := rfl
@[simp] theorem State.setKeypadStub_ieReg (s : State) (v : Byte) : (s.setKeypadStub v).ieReg = s.ieReg := rfl
@[simp] theorem State.setKeypadStub_keypadStub (s : State) (v : Byte) : (s.setKeypadStub v).keypadStub = v := rfl
@[simp] theorem State.setKeypadStub_mem (s : State) (v : Byte) : (s.setKeypadStub v).mem = s.mem := rfl
@[simp] theorem State.setKeypadStub_gpu (s : State) (v : Byte) : (s.setKeypadStub v).gpu = s.gpu := rfl
@[simp] theorem State.setKeypadStub_cart (s : State) (v : Byte) : (s.setKeypadStub v).cart = s.cart := rfl
@[simp] theorem State.setKeypadStub_bios (s : State) (v : Byte) : (s.setKeypadStub v).bios = s.bios := rfl
@[simp] theorem State.setKeypadStub_config (s : State) (v : Byte) : (s.setKeypadStub v).config = s.config := rfl
@[simp] theorem State.setKeypadStub_draws (s : State) (v : Byte) : (s.setKeypadStub v).draws = s.draws := rfl

@[simp] theorem State.setMem_a (s : State) (v : Memory) : (s.setMem v).a = s.a := rfl
@[simp] theorem State.setMem_f (s : State) (v : Memory) : (s.setMem v).f = s.f := rfl
@[simp] theorem State.setMem_b (s : State) (v : Memory) : (s.setMem v).b = s.b := rfl
@[simp] theorem State.setMem_c (s : State) (v : Memory) : (s.setMem v).c = s.c := rfl
@[simp] theorem State.setMem_d (s : State) (v : Memory) : (s.setMem v).d = s.d := rfl
@[simp] theorem State.setMem_e (s : State) (v : Memory) : (s.setMem v).e = s.e := rfl
@[simp] theorem State.setMem_h (s : State) (v : Memory) : (s.setMem v).h = s.h := rfl
@[simp] theorem State.setMem_l (s : State) (v : Memory) : (s.setMem v).l = s.l := rfl
@[simp] theorem State.setMem_sp (s : State) (v : Memory) : (s.setMem v).sp = s.sp := rfl
@[simp] theorem State.setMem_pc (s : State) (v : Memory) : (s.setMem v).pc = s.pc := rfl
@[simp] theorem State.setMem_ime (s : State) (v : Memory) : (s.setMem v).ime = s.ime := rfl
@[simp] theorem State.setMem_eiDelay (s : State) (v : Memory) : (s.setMem v).eiDelay = s.eiDelay := rfl
@[simp] theorem State.setMem_halted (s : State) (v : Memory) : (s.setMem v).halted = s.halted := rfl
@[simp] theorem State.setMem_stopped (s : State) (v : Memory) : (s.setMem v).stopped = s.stopped := rfl
@[simp] theorem State.setMem_cycles (s : State) (v : Memory) : (s.setMem v).cycles = s.cycles := rfl
@[simp] theorem State.setMem_bootLatch (s : State) (v : Memory) : (s.setMem v).bootLatch = s.bootLatch := rfl
@[simp] theorem State.setMem_ifReg (s : State) (v : Memory) : (s.setMem v).ifReg = s.ifReg := rfl
@[simp] theorem State.setMem_ieReg (s : State) (v : Memory) : (s.setMem v).ieReg = s.ieReg := rfl
@[simp] theorem State.setMem_keypadStub (s : State) (v : Memory) : (s.setMem v).keypadStub = s.keypadStub := rfl
@[simp] theorem State.setMem_mem (s : State) (v : Memory) : (s.setMem v).mem = v := rfl
@[simp] theorem State.setMem_gpu (s : State) (v : Memory) : (s.setMem v).gpu = s.gpu := rfl
@[simp] theorem State.setMem_cart (s : State) (v : Memory) : (s.setMem v).cart = s.cart := rfl
@[simp] theorem State.setMem_bios (s : State) (v : Memory) : (s.setMem v).bios = s.bios := rfl
@[simp] theorem State.setMem_config (s : State) (v : Memory) : (s.setMem v).config = s.config := rfl
@[simp] theorem State.setMem_draws (s : State) (v : Memory) : (s.setMem v).draws = s.draws := rfl

@[simp] theorem State.setGpu_a (s : State) (v : Gpu) : (s.setGpu v).a = s.a := rfl
@[simp] theorem State.setGpu_f (s : State) (v : Gpu) : (s.setGpu v).f = s.f := rfl
@[simp] theorem State.setGpu_b (s : State) (v : Gpu) : (s.setGpu v).b = s.b := rfl
@[simp] theorem State.setGpu_c (s : State) (v : Gpu) : (s.setGpu v).c = s.c := rfl
@[simp] theorem State.setGpu_d (s : State) (v : Gpu) : (s.setGpu v).d = s.d := rfl
@[simp] theorem State.setGpu_e (s : State) (v : Gpu) : (s.setGpu v).e = s.e := rfl
@[simp] theorem State.setGpu_h (s : State) (v : Gpu) : (s.setGpu v).h = s.h := rfl
@[simp] theorem State.setGpu_l (s : State) (v : Gpu) : (s.setGpu v).l = s.l := rfl
@[simp] theorem State.setGpu_sp (s : State) (v : Gpu) : (s.setGpu v).sp = s.sp := rfl
@[simp] theorem State.setGpu_pc (s : State) (v : Gpu) : (s.setGpu v).pc = s.pc := rfl
@[simp] theorem State.setGpu_ime (s : State) (v : Gpu) : (s.setGpu v).ime = s.ime := rfl
@[simp] theorem State.setGpu_eiDelay (s : State) (v : Gpu) : (s.setGpu v).eiDelay = s.eiDelay := rfl
@[simp] theorem State.setGpu_halted (s : State) (v : Gpu) : (s.setGpu v).halted = s.halted := rfl
@[simp] theorem State.setGpu_stopped (s : State) (v : Gpu) : (s.setGpu v).stopped = s.stopped := rfl
@[simp] theorem State.setGpu_cycles (s : State) (v : Gpu) : (s.setGpu v).cycles = s.cycles := rfl
@[simp] theorem State.setGpu_bootLatch (s : State) (v : Gpu) : (s.setGpu v).bootLatch = s.bootLatch := rfl
@[simp] theorem State.setGpu_ifReg (s : State) (v : Gpu) : (s.setGpu v).ifReg = s.ifReg := rfl
@[simp] theorem State.setGpu_ieReg (s : State) (v : Gpu) : (s.setGpu v).ieReg = s.ieReg := rfl
@[simp] theorem State.setGpu_keypadStub (s : State) (v : Gpu) : (s.setGpu v).keypadStub = s.keypadStub := rfl
@[simp] theorem State.setGpu_mem (s : State) (v : Gpu) : (s.setGpu v).mem = s.mem := rfl
@[simp] theorem State.setGpu_gpu (s : State) (v : Gpu) : (s.setGpu v).gpu = v := rfl
@[simp] theorem State.setGpu_cart (s : State) (v : Gpu) : (s.setGpu v).cart = s.cart := rfl
@[simp] theorem State.setGpu_bios (s : State) (v : Gpu) : (s.setGpu v).bios = s.bios := rfl
@[simp] theorem State.setGpu_config (s : State) (v : Gpu) : (s.setGpu v).config = s.config := rfl
@[simp] theorem State.setGpu_draws (s : State) (v : Gpu) : (s.setGpu v).draws = s.draws := rfl

@[simp] theorem State.nextDraw_a (s : State) : s.nextDraw.a = s.a := rfl
@[simp] theorem State.nextDraw_f (s : State) : s.nextDraw.f = s.f := rfl
@[simp] theorem State.nextDraw_b (s : State) : s.nextDraw.b = s.b := rfl
@[simp] theorem State.nextDraw_c (s : State) : s.nextDraw.c = s.c := rfl
@[simp] theorem State.nextDraw_d (s : State) : s.nextDraw.d = s.d := rfl
@[simp] theorem State.nextDraw_e (s : State) : s.nextDraw.e = s.e := rfl
@[simp] theorem State.nextDraw_h (s : State) : s.nextDraw.h = s.h := rfl
@[simp] theorem State.nextDraw_l (s : State) : s.nextDraw.l = s.l := rfl
@[simp] theorem State.nextDraw_sp (s : State) : s.nextDraw.sp = s.sp := rfl
@[simp] theorem State.nextDraw_pc (s : State) : s.nextDraw.pc = s.pc := rfl
@[simp] theorem State.nextDraw_ime (s : State) : s.nextDraw.ime = s.ime := rfl
@[simp] theorem State.nextDraw_eiDelay (s : State) : s.nextDraw.eiDelay = s.eiDelay := rfl
@[simp] theorem State.nextDraw_halted (s : State) : s.nextDraw.halted = s.halted := rfl
@[simp] theorem State.nextDraw_stopped (s : State) : s.nextDraw.stopped = s.stopped := rfl
@[simp] theorem State.nextDraw_cycles (s : State) : s.nextDraw.cycles = s.cycles := rfl
@[simp] theorem State.nextDraw_bootLatch (s : State) : s.nextDraw.bootLatch = s.bootLatch := rfl
@[simp] theorem State.nextDraw_ifReg (s : State) : s.nextDraw.ifReg = s.ifReg := rfl
@[simp] theorem State.nextDraw_ieReg (s : State) : s.nextDraw.ieReg = s.ieReg := rfl
@[simp] theorem State.nextDraw_keypadStub (s : State) : s.nextDraw.keypadStub = s.keypadStub := rfl
@[simp] theorem State.nextDraw_mem (s : State) : s.nextDraw.mem = s.mem := rfl
@[simp] theorem State.nextDraw_gpu (s : State) : s.nextDraw.gpu = s.gpu := rfl
@[simp] theorem State.nextDraw_cart (s : State) : s.nextDraw.cart = s.cart := rfl
@[simp] theorem State.nextDraw_bios (s : State) : s.nextDraw.bios = s.bios := rfl
@[simp] theorem State.nextDraw_config (s : State) : s.nextDraw.config = s.config := rfl
@[simp] theorem State.nextDraw_draws (s : State) : s.nextDraw.draws = s.draws + 1 := rfl

@[simp] theorem State.setReg8_a (s : State) (v : Byte) : (s.setReg8 .a v).a = v := rfl
@[simp] theorem State.setReg8_f (s : State) (r : Reg8) (v : Byte) : (s.setReg8 r v).f = s.f := by cases r <;> rfl
@[simp] theorem State.setReg8_b (s : State) (v : Byte) : (s.setReg8 .b v).b = v := rfl
@[simp] theorem State.setReg8_c (s : State) (v : Byte) : (s.setReg8 .c v).c = v := rfl
@[simp] theorem State.setReg8_d (s : State) (v : Byte) : (s.setReg8 .d v).d = v := rfl
@[simp] theorem State.setReg8_e (s : State) (v : Byte) : (s.setReg8 .e v).e = v := rfl
@[simp] theorem State.setReg8_h (s : State) (v : Byte) : (s.setReg8 .h v).h = v := rfl
@[simp] theorem State.setReg8_l (s : State) (v : Byte) : (s.setReg8 .l v).l = v := rfl
@[simp] theorem State.setReg8_sp (s : State) (r : Reg8) (v : Byte) : (s.setReg8 r v).sp = s.sp := by cases r <;> rfl
@[simp] theorem State.setReg8_pc (s : State) (r : Reg8) (v : Byte) : (s.setReg8 r v).pc = s.pc := by cases r <;> rfl
@[simp] theorem State.setReg8_ime (s : State) (r : Reg8) (v : Byte) : (s.setReg8 r v).ime = s.ime := by cases r <;> rfl
@[simp] theorem State.setReg8_eiDelay (s : State) (r : Reg8) (v : Byte) : (s.setReg8 r v).eiDelay = s.eiDelay := by cases r <;> rfl
@[simp] theorem State.setReg8_halted (s : State) (r : Reg8) (v : Byte) : (s.setReg8 r v).halted = s.halted := by cases r <;> rfl
@[simp] theorem State.setReg8_stopped (s : State) (r : Reg8) (v : Byte) : (s.setReg8 r v).stopped = s.stopped := by cases r <;> rfl
@[simp] theorem State.setReg8_cycles (s : State) (r : Reg8) (v : Byte) : (s.setReg8 r v).cycles = s.cycles := by cases r <;> rfl
@[simp] theorem State.setReg8_bootLatch (s : State) (r : Reg8) (v : Byte) : (s.setReg8 r v).bootLatch = s.bootLatch := by cases r <;> rfl
@[simp] theorem State.setReg8_ifReg (s : State) (r : Reg8) (v : Byte) : (s.setReg8 r v).ifReg = s.ifReg := by cases r <;> rfl
@[simp] theorem State.setReg8_ieReg (s : State) (r : Reg8) (v : Byte) : (s.setReg8 r v).ieReg = s.ieReg := by cases r <;> rfl
@[simp] theorem State.setReg8_keypadStub (s : State) (r : Reg8) (v : Byte) : (s.setReg8 r v).keypadStub = s.keypadStub := by cases r <;> rfl
@[simp] theorem State.setReg8_mem (s : State) (r : Reg8) (v : Byte) : (s.setReg8 r v).mem = s.mem := by cases r <;> rfl
@[simp] theorem State.setReg8_gpu (s : State) (r : Reg8) (v : Byte) : (s.setReg8 r v).gpu = s.gpu := by cases r <;> rfl
@[simp] theorem State.setReg8_cart (s : State) (r : Reg8) (v : Byte) : (s.setReg8 r v).cart = s.cart := by cases r <;> rfl
@[simp] theorem State.setReg8_bios (s : State) (r : Reg8) (v : Byte) : (s.setReg8 r v).bios = s.bios := by cases r <;> rfl
@[simp] theorem State.setReg8_config (s : State) (r : Reg8) (v : Byte) : (s.setReg8 r v).config = s.config := by cases r <;> rfl
@[simp] theorem State.setReg8_draws (s : State) (r : Reg8) (v : Byte) : (s.setReg8 r v).draws = s.draws := by cases r <;> rfl

@[simp] theorem State.setFlags_a (s : State) (z n h cy : Bool) : (s.setFlags z n h cy).a = s.a := rfl
@[simp] theorem State.setFlags_b (s : State) (z n h cy : Bool) : (s.setFlags z n h cy).b = s.b := rfl
@[simp] theorem State.setFlags_c (s : State) (z n h cy : Bool) : (s.setFlags z n h cy).c = s.c := rfl
@[simp] theorem State.setFlags_d (s : State) (z n h cy : Bool) : (s.setFlags z n h cy).d = s.d := rfl
@[simp] theorem State.setFlags_e (s : State) (z n h cy : Bool) : (s.setFlags z n h cy).e = s.e := rfl
@[simp] theorem State.setFlags_h (s : State) (z n h cy : Bool) : (s.setFlags z n h cy).h = s.h := rfl
@[simp] theorem State.setFlags_l (s : State) (z n h cy : Bool) : (s.setFlags z n h cy).l = s.l := rfl
@[simp] theorem State.setFlags_sp (s : State) (z n h cy : Bool) : (s.setFlags z n h cy).sp = s.sp := rfl
@[simp] theorem State.setFlags_pc (s : State) (z n h cy : Bool) : (s.setFlags z n h cy).pc = s.pc := rfl
@[simp] theorem State.setFlags_ime (s : State) (z n h cy : Bool) : (s.setFlags z n h cy).ime = s.ime := rfl
@[simp] theorem State.setFlags_eiDelay (s : State) (z n h cy : Bool) : (s.setFlags z n h cy).eiDelay = s.eiDelay := rfl
@[simp] theorem State.setFlags_halted (s : State) (z n h cy : Bool) : (s.setFlags z n h cy).halted = s.halted := rfl
@[simp] theorem State.setFlags_stopped (s : State) (z n h cy : Bool) : (s.setFlags z n h cy).stopped = s.stopped := rfl
@[simp] theorem State.setFlags_cycles (s : State) (z n h cy : Bool) : (s.setFlags z n h cy).cycles = s.cycles := rfl
@[simp] theorem State.setFlags_bootLatch (s : State) (z n h cy : Bool) : (s.setFlags z n h cy).bootLatch = s.bootLatch := rfl
@[simp] theorem State.setFlags_ifReg (s : State) (z n h cy : Bool) : (s.setFlags z n h cy).ifReg = s.ifReg := rfl
@[simp] theorem State.setFlags_ieReg (s : State) (z n h cy : Bool) : (s.setFlags z n h cy).ieReg = s.ieReg := rfl
@[simp] theorem State.setFlags_keypadStub (s : State) (z n h cy : Bool) : (s.setFlags z n h cy).keypadStub = s.keypadStub := rfl
@[simp] theorem State.setFlags_mem (s : State) (z n h cy : Bool) : (s.setFlags z n h cy).mem = s.mem := rfl
@[simp] theorem State.setFlags_gpu (s : State) (z n h cy : Bool) : (s.setFlags z n h cy).gpu = s.gpu := rfl
@[simp] theorem State.setFlags_cart (s : State) (z n h cy : Bool) : (s.setFlags z n h cy).cart = s.cart := rfl
@[simp] theorem State.setFlags_bios (s : State) (z n h cy : Bool) : (s.setFlags z n h cy).bios = s.bios := rfl
@[simp] theorem State.setFlags_config (s : State) (z n h cy : Bool) : (s.setFlags z n h cy).config = s.config := rfl
@[simp] theorem State.setFlags_draws (s : State) (z n h cy : Bool) : (s.setFlags z n h cy).draws = s.draws := rfl
@[simp] theorem State.setFlagsZNH_a (s : State) (z n h : Bool) : (s.setFlagsZNH z n h).a = s.a := rfl
@[simp] theorem State.setFlagsZNH_b (s : State) (z n h : Bool) : (s.setFlagsZNH z n h).b = s.b := rfl
@[simp] theorem State.setFlagsZNH_c (s : State) (z n h : Bool) : (s.setFlagsZNH z n h).c = s.c := rfl
@[simp] theorem State.setFlagsZNH_d (s : State) (z n h : Bool) : (s.setFlagsZNH z n h).d = s.d := rfl
@[simp] theorem State.setFlagsZNH_e (s : State) (z n h : Bool) : (s.setFlagsZNH z n h).e = s.e := rfl
@[simp] theorem State.setFlagsZNH_h (s : State) (z n h : Bool) : (s.setFlagsZNH z n h).h = s.h := rfl
@[simp] theorem State.setFlagsZNH_l (s : State) (z n h : Bool) : (s.setFlagsZNH z n h).l = s.l := rfl
@[simp] theorem State.setFlagsZNH_sp (s : State) (z n h : Bool) : (s.setFlagsZNH z n h).sp = s.sp := rfl
@[simp] theorem State.setFlagsZNH_pc (s : State) (z n h : Bool) : (s.setFlagsZNH z n h).pc = s.pc := rfl
@[simp] theorem State.setFlagsZNH_ime (s : State) (z n h : Bool) : (s.setFlagsZNH z n h).ime = s.ime := rfl
@[simp] theorem State.setFlagsZNH_eiDelay (s : State) (z n h : Bool) : (s.setFlagsZNH z n h).eiDelay = s.eiDelay := rfl
@[simp] theorem State.setFlagsZNH_halted (s : State) (z n h : Bool) : (s.setFlagsZNH z n h).halted = s.halted := rfl
@[simp] theorem State.setFlagsZNH_stopped (s : State) (z n h : Bool) : (s.setFlagsZNH z n h).stopped = s.stopped := rfl
@[simp] theorem State.setFlagsZNH_cycles (s : State) (z n h : Bool) : (s.setFlagsZNH z n h).cycles = s.cycles := rfl
@[simp] theorem State.setFlagsZNH_bootLatch (s : State) (z n h : Bool) : (s.setFlagsZNH z n h).bootLatch = s.bootLatch := rfl
@[simp] theorem State.setFlagsZNH_ifReg (s : State) (z n h : Bool) : (s.setFlagsZNH z n h).ifReg = s.ifReg := rfl
@[simp] theorem State.setFlagsZNH_ieReg (s : State) (z n h : Bool) : (s.setFlagsZNH z n h).ieReg = s.ieReg := rfl
@[simp] theorem State.setFlagsZNH_keypadStub (s : State) (z n h : Bool) : (s.setFlagsZNH z n h).keypadStub = s.keypadStub := rfl
@[simp] theorem State.setFlagsZNH_mem (s : State) (z n h : Bool) : (s.setFlagsZNH z n h).mem = s.mem := rfl
@[simp] theorem State.setFlagsZNH_gpu (s : State) (z n h : Bool) : (s.setFlagsZNH z n h).gpu = s.gpu := rfl
@[simp] theorem State.setFlagsZNH_cart (s : State) (z n h : Bool) : (s.setFlagsZNH z n h).cart = s.cart := rfl
@[simp] theorem State.setFlagsZNH_bios (s : State) (z n h : Bool) : (s.setFlagsZNH z n h).bios = s.bios := rfl
@[simp] theorem State.setFlagsZNH_config (s : State) (z n h : Bool) : (s.setFlagsZNH z n h).config = s.config := rfl
@[simp] theorem State.setFlagsZNH_draws (s : State) (z n h : Bool) : (s.setFlagsZNH z n h).draws = s.draws := rfl
@[simp] theorem State.setFlagsNHC_a (s : State) (n h cy : Bool) : (s.setFlagsNHC n h cy).a = s.a := rfl
@[simp] theorem State.setFlagsNHC_b (s : State) (n h cy : Bool) : (s.setFlagsNHC n h cy).b = s.b := rfl
@[simp] theorem State.setFlagsNHC_c (s : State) (n h cy : Bool) : (s.setFlagsNHC n h cy).c = s.c := rfl
@[simp] theorem State.setFlagsNHC_d (s : State) (n h cy : Bool) : (s.setFlagsNHC n h cy).d = s.d := rfl
@[simp] theorem State.setFlagsNHC_e (s : State) (n h cy : Bool) : (s.setFlagsNHC n h cy).e = s.e := rfl
@[simp] theorem State.setFlagsNHC_h (s : State) (n h cy : Bool) : (s.setFlagsNHC n h cy).h = s.h := rfl
@[simp] theorem State.setFlagsNHC_l (s : State) (n h cy : Bool) : (s.setFlagsNHC n h cy).l = s.l := rfl
@[simp] theorem State.setFlagsNHC_sp (s : State) (n h cy : Bool) : (s.setFlagsNHC n h cy).sp = s.sp := rfl
@[simp] theorem State.setFlagsNHC_pc (s : State) (n h cy : Bool) : (s.setFlagsNHC n h cy).pc = s.pc := rfl
@[simp] theorem State.setFlagsNHC_ime (s : State) (n h cy : Bool) : (s.setFlagsNHC n h cy).ime = s.ime := rfl
@[simp] theorem State.setFlagsNHC_eiDelay (s : State) (n h cy : Bool) : (s.setFlagsNHC n h cy).eiDelay = s.eiDelay := rfl
@[simp] theorem State.setFlagsNHC_halted (s : State) (n h cy : Bool) : (s.setFlagsNHC n h cy).halted = s.halted := rfl
@[simp] theorem State.setFlagsNHC_stopped (s : State) (n h cy : Bool) : (s.setFlagsNHC n h cy).stopped = s.stopped := rfl
@[simp] theorem State.setFlagsNHC_cycles (s : State) (n h cy : Bool) : (s.setFlagsNHC n h cy).cycles = s.cycles := rfl
@[simp] theorem State.setFlagsNHC_bootLatch (s : State) (n h cy : Bool) : (s.setFlagsNHC n h cy).bootLatch = s.bootLatch := rfl
@[simp] theorem State.setFlagsNHC_ifReg (s : State) (n h cy : Bool) : (s.setFlagsNHC n h cy).ifReg = s.ifReg := rfl
@[simp] theorem State.setFlagsNHC_ieReg (s : State) (n h cy : Bool) : (s.setFlagsNHC n h cy).ieReg = s.ieReg := rfl
@[simp] theorem State.setFlagsNHC_keypadStub (s : State) (n h cy : Bool) : (s.setFlagsNHC n h cy).keypadStub = s.keypadStub := rfl
@[simp] theorem State.setFlagsNHC_mem (s : State) (n h cy : Bool) : (s.setFlagsNHC n h cy).mem = s.mem := rfl
@[simp] theorem State.setFlagsNHC_gpu (s : State) (n h cy : Bool) : (s.setFlagsNHC n h cy).gpu = s.gpu := rfl
@[simp] theorem State.setFlagsNHC_cart (s : State) (n h cy : Bool) : (s.setFlagsNHC n h cy).cart = s.cart := rfl
@[simp] theorem State.setFlagsNHC_bios (s : State) (n h cy : Bool) : (s.setFlagsNHC n h cy).bios = s.bios := rfl
@[simp] theorem State.setFlagsNHC_config (s : State) (n h cy : Bool) : (s.setFlagsNHC n h cy).config = s.config := rfl
@[simp] theorem State.setFlagsNHC_draws (s : State) (n h cy : Bool) : (s.setFlagsNHC n h cy).draws = s.draws := rfl

@[simp] theorem State.setHl_a (s : State) (v : Word) : (s.setHl v).a = s.a := rfl
@[simp] theorem State.setHl_f (s : State) (v : Word) : (s.setHl v).f = s.f := rfl
@[simp] theorem State.setHl_b (s : State) (v : Word) : (s.setHl v).b = s.b := rfl
@[simp] theorem State.setHl_c (s : State) (v : Word) : (s.setHl v).c = s.c := rfl
@[simp] theorem State.setHl_d (s : State) (v : Word) : (s.setHl v).d = s.d := rfl
@[simp] theorem State.setHl_e (s : State) (v : Word) : (s.setHl v).e = s.e := rfl
@[simp] theorem State.setHl_h (s : State) (v : Word) : (s.setHl v).h = v.hi := rfl
@[simp] theorem State.setHl_l (s : State) (v : Word) : (s.setHl v).l = v.lo := rfl
@[simp] theorem State.setHl_sp (s : State) (v : Word) : (s.setHl v).sp = s.sp := rfl
@[simp] theorem State.setHl_pc (s : State) (v : Word) : (s.setHl v).pc = s.pc := rfl
@[simp] theorem State.setHl_ime (s : State) (v : Word) : (s.setHl v).ime = s.ime := rfl
@[simp] theorem State.setHl_eiDelay (s : State) (v : Word) : (s.setHl v).eiDelay = s.eiDelay := rfl
@[simp] theorem State.setHl_halted (s : State) (v : Word) : (s.setHl v).halted = s.halted := rfl
@[simp] theorem State.setHl_stopped (s : State) (v : Word) : (s.setHl v).stopped = s.stopped := rfl
@[simp] theorem State.setHl_cycles (s : State) (v : Word) : (s.setHl v).cycles = s.cycles := rfl
@[simp] theorem State.setHl_bootLatch (s : State) (v : Word) : (s.setHl v).bootLatch = s.bootLatch := rfl
@[simp] theorem State.setHl_ifReg (s : State) (v : Word) : (s.setHl v).ifReg = s.ifReg := rfl
@[simp] theorem State.setHl_ieReg (s : State) (v : Word) : (s.setHl v).ieReg = s.ieReg := rfl
@[simp] theorem State.setHl_keypadStub (s : State) (v : Word) : (s.setHl v).keypadStub = s.keypadStub := rfl
@[simp] theorem State.setHl_mem (s : State) (v : Word) : (s.setHl v).mem = s.mem := rfl
@[simp] theorem State.setHl_gpu (s : State) (v : Word) : (s.setHl v).gpu = s.gpu := rfl
@[simp] theorem State.setHl_cart (s : State) (v : Word) : (s.setHl v).cart = s.cart := rfl
@[simp] theorem State.setHl_bios (s : State) (v : Word) : (s.setHl v).bios = s.bios := rfl
@[simp] theorem State.setHl_config (s : State) (v : Word) : (s.setHl v).config = s.config := rfl
@[simp] theorem State.setHl_draws (s : State) (v : Word) : (s.setHl v).draws = s.draws := rfl
@[simp] theorem State.setReg16_a (s : State) (p : Reg16) (v : Word) : (s.setReg16 p v).a = s.a := by cases p <;> rfl
@[simp] theorem State.setReg16_f (s : State) (p : Reg16) (v : Word) : (s.setReg16 p v).f = s.f := by cases p <;> rfl
@[simp] theorem State.setReg16_pc (s : State) (p : Reg16) (v : Word) : (s.setReg16 p v).pc = s.pc := by cases p <;> rfl
@[simp] theorem State.setReg16_ime (s : State) (p : Reg16) (v : Word) : (s.setReg16 p v).ime = s.ime := by cases p <;> rfl
@[simp] theorem State.setReg16_eiDelay (s : State) (p : Reg16) (v : Word) : (s.setReg16 p v).eiDelay = s.eiDelay := by cases p <;> rfl
@[simp] theorem State.setReg16_halted (s : State) (p : Reg16) (v : Word) : (s.setReg16 p v).halted = s.halted := by cases p <;> rfl
@[simp] theorem State.setReg16_stopped (s : State) (p : Reg16) (v : Word) : (s.setReg16 p v).stopped = s.stopped := by cases p <;> rfl
@[simp] theorem State.setReg16_cycles (s : State) (p : Reg16) (v : Word) : (s.setReg16 p v).cycles = s.cycles := by cases p <;> rfl
@[simp] theorem State.setReg16_bootLatch (s : State) (p : Reg16) (v : Word) : (s.setReg16 p v).bootLatch = s.bootLatch := by cases p <;> rfl
@[simp] theorem State.setReg16_ifReg (s : State) (p : Reg16) (v : Word) : (s.setReg16 p v).ifReg = s.ifReg := by cases p <;> rfl
@[simp] theorem State.setReg16_ieReg (s : State) (p : Reg16) (v : Word) : (s.setReg16 p v).ieReg = s.ieReg := by cases p <;> rfl
@[simp] theorem State.setReg16_keypadStub (s : State) (p : Reg16) (v : Word) : (s.setReg16 p v).keypadStub = s.keypadStub := by cases p <;> rfl
@[simp] theorem State.setReg16_mem (s : State) (p : Reg16) (v : Word) : (s.setReg16 p v).mem = s.mem := by cases p <;> rfl
@[simp] theorem State.setReg16_gpu (s : State) (p : Reg16) (v : Word) : (s.setReg16 p v).gpu = s.gpu := by cases p <;> rfl
@[simp] theorem State.setReg16_cart (s : State) (p : Reg16) (v : Word) : (s.setReg16 p v).cart = s.cart := by cases p <;> rfl
@[simp] theorem State.setReg16_bios (s : State) (p : Reg16) (v : Word) : (s.setReg16 p v).bios = s.bios := by cases p <;> rfl
@[simp] theorem State.setReg16_config (s : State) (p : Reg16) (v : Word) : (s.setReg16 p v).config = s.config := by cases p <;> rfl
@[simp] theorem State.setReg16_draws (s : State) (p : Reg16) (v : Word) : (s.setReg16 p v).draws = s.draws := by cases p <;> rfl
@[simp] theorem State.setStackPair_sp (s : State) (q : StackPair) (v : Word) : (s.setStackPair q v).sp = s.sp := by cases q <;> rfl
@[simp] theorem State.setStackPair_pc (s : State) (q : StackPair) (v : Word) : (s.setStackPair q v).pc = s.pc := by cases q <;> rfl
@[simp] theorem State.setStackPair_ime (s : State) (q : StackPair) (v : Word) : (s.setStackPair q v).ime = s.ime := by cases q <;> rfl
@[simp] theorem State.setStackPair_eiDelay (s : State) (q : StackPair) (v : Word) : (s.setStackPair q v).eiDelay = s.eiDelay := by cases q <;> rfl
@[simp] theorem State.setStackPair_halted (s : State) (q : StackPair) (v : Word) : (s.setStackPair q v).halted = s.halted := by cases q <;> rfl
@[simp] theorem State.setStackPair_stopped (s : State) (q : StackPair) (v : Word) : (s.setStackPair q v).stopped = s.stopped := by cases q <;> rfl
@[simp] theorem State.setStackPair_cycles (s : State) (q : StackPair) (v : Word) : (s.setStackPair q v).cycles = s.cycles := by cases q <;> rfl
@[simp] theorem State.setStackPair_bootLatch (s : State) (q : StackPair) (v : Word) : (s.setStackPair q v).bootLatch = s.bootLatch := by cases q <;> rfl
@[simp] theorem State.setStackPair_ifReg (s : State) (q : StackPair) (v : Word) : (s.setStackPair q v).ifReg = s.ifReg := by cases q <;> rfl
@[simp] theorem State.setStackPair_ieReg (s : State) (q : StackPair) (v : Word) : (s.setStackPair q v).ieReg = s.ieReg := by cases q <;> rfl
@[simp] theorem State.setStackPair_keypadStub (s : State) (q : StackPair) (v : Word) : (s.setStackPair q v).keypadStub = s.keypadStub := by cases q <;> rfl
@[simp] theorem State.setStackPair_mem (s : State) (q : StackPair) (v : Word) : (s.setStackPair q v).mem = s.mem := by cases q <;> rfl
@[simp] theorem State.setStackPair_gpu (s : State) (q : StackPair) (v : Word) : (s.setStackPair q v).gpu = s.gpu := by cases q <;> rfl
@[simp] theorem State.setStackPair_cart (s : State) (q : StackPair) (v : Word) : (s.setStackPair q v).cart = s.cart := by cases q <;> rfl
@[simp] theorem State.setStackPair_bios (s : State) (q : StackPair) (v : Word) : (s.setStackPair q v).bios = s.bios := by cases q <;> rfl
@[simp] theorem State.setStackPair_config (s : State) (q : StackPair) (v : Word) : (s.setStackPair q v).config = s.config := by cases q <;> rfl
@[simp] theorem State.setStackPair_draws (s : State) (q : StackPair) (v : Word) : (s.setStackPair q v).draws = s.draws := by cases q <;> rfl

/-! ### Reading back -/

@[simp] theorem State.reg8_setReg8_same (s : State) (r : Reg8) (v : Byte) : (s.setReg8 r v).reg8 r = v := by
  cases r <;> rfl

theorem State.reg8_setReg8_other (s : State) {r q : Reg8} (v : Byte) (h : q ≠ r) :
    (s.setReg8 r v).reg8 q = s.reg8 q := by
  cases r <;> cases q <;> first | rfl | exact absurd rfl h

end Sys2Proof.Machine
end

