-- ==== Sys2Proof/Laws/Word.lean ====
section
/-! SUPPORT. A word and its two bytes (R11, R31). -/

namespace Sys2Proof

theorem Word.ofBytes_toNat (hi lo : Byte) : (Word.ofBytes hi lo).toNat = hi.toNat * 256 + lo.toNat := by
  have h : (Word.ofBytes hi lo).toNat = hi.toNat <<< 8 ||| lo.toNat := BitVec.toNat_append hi lo
  have hlo := lo.isLt
  rw [h, ← Nat.shiftLeft_add_eq_or_of_lt hlo, Nat.shiftLeft_eq]

theorem Word.hi_toNat (w : Word) : w.hi.toNat = w.toNat / 256 := by
  have h := w.isLt
  simp only [Word.hi, BitVec.extractLsb'_toNat, Nat.shiftRight_eq_div_pow]
  omega

theorem Word.lo_toNat (w : Word) : w.lo.toNat = w.toNat % 256 := by
  simp [Word.lo]

@[simp] theorem Word.ofBytes_hi_lo (w : Word) : Word.ofBytes w.hi w.lo = w := by
  apply BitVec.eq_of_toNat_eq
  rw [Word.ofBytes_toNat, Word.hi_toNat, Word.lo_toNat]
  omega

@[simp] theorem Word.hi_ofBytes (hi lo : Byte) : (Word.ofBytes hi lo).hi = hi := by
  apply BitVec.eq_of_toNat_eq
  rw [Word.hi_toNat, Word.ofBytes_toNat]
  have := lo.isLt
  omega

@[simp] theorem Word.lo_ofBytes (hi lo : Byte) : (Word.ofBytes hi lo).lo = lo := by
  apply BitVec.eq_of_toNat_eq
  rw [Word.lo_toNat, Word.ofBytes_toNat]
  have := lo.isLt
  omega

end Sys2Proof
end

