-- ==== Sys2Proof/Laws/Bus.lean ====
section
/-! SUPPORT. What the bus operations can do, said once: each read, write, copy, push and pop, by inversion. -/

namespace Sys2Proof.Machine

/-! ### Results -/

theorem Res.bind_eq_ok {α β : Type} {x : Res α} {f : α → Res β} {r : β} :
    (x >>= f) = .ok r ↔ ∃ a, x = .ok a ∧ f a = .ok r := by
  cases x <;> simp [bind, Except.bind]

@[simp] theorem Res.pure_eq {α : Type} (a : α) : (pure a : Res α) = .ok a := rfl

@[simp] theorem Res.ok_bind {α β : Type} (a : α) (f : α → Res β) : ((.ok a : Res α) >>= f) = f a := rfl

@[simp] theorem Res.error_bind {α β : Type} (e : Stop) (f : α → Res β) :
    ((.error e : Res α) >>= f) = .error e := rfl

/-! ### The part of the state the bus reaches -/

/-- `t` differs from `s` only in what the bus can write: the stores, the GPU, the keypad stub, the latch, IF, IE, and the
draw counter; and the latch does not fall (R45, R64). -/
structure State.BusStep (s t : State) : Prop where
  frame : t = { s with mem := t.mem, gpu := t.gpu, keypadStub := t.keypadStub, bootLatch := t.bootLatch,
                       ifReg := t.ifReg, ieReg := t.ieReg, draws := t.draws }
  latch : s.bootLatch = true → t.bootLatch = true

theorem State.BusStep.refl (s : State) : s.BusStep s := ⟨rfl, id⟩

theorem State.BusStep.trans {s t u : State} (h₁ : s.BusStep t) (h₂ : t.BusStep u) : s.BusStep u := by
  refine ⟨?_, fun h => h₂.latch (h₁.latch h)⟩
  have hf := h₂.frame
  rw [h₁.frame] at hf
  exact hf

section
variable {s t : State} (h : s.BusStep t)
include h
theorem State.BusStep.reg8 (r : Reg8) : t.reg8 r = s.reg8 r := by rw [h.frame]; cases r <;> rfl
theorem State.BusStep.f : t.f = s.f := by rw [h.frame]
theorem State.BusStep.a : t.a = s.a := by rw [h.frame]
theorem State.BusStep.hl : t.hl = s.hl := by rw [h.frame]; rfl
theorem State.BusStep.sp : t.sp = s.sp := by rw [h.frame]
theorem State.BusStep.pc : t.pc = s.pc := by rw [h.frame]
theorem State.BusStep.ime : t.ime = s.ime := by rw [h.frame]
theorem State.BusStep.eiDelay : t.eiDelay = s.eiDelay := by rw [h.frame]
theorem State.BusStep.halted : t.halted = s.halted := by rw [h.frame]
theorem State.BusStep.stopped : t.stopped = s.stopped := by rw [h.frame]
theorem State.BusStep.cycles : t.cycles = s.cycles := by rw [h.frame]
theorem State.BusStep.cart : t.cart = s.cart := by rw [h.frame]
theorem State.BusStep.bios : t.bios = s.bios := by rw [h.frame]
theorem State.BusStep.config : t.config = s.config := by rw [h.frame]
end

/-! ### Reads -/

theorem State.afterRead_eq (s : State) (a : Word) :
    s.afterRead a = { s with draws := if s.readDraws a then s.draws + 1 else s.draws } := by
  unfold State.afterRead
  split <;> rfl

/-- A read that is no draw leaves the state as it was (R70). -/
theorem State.afterRead_of_not_draws {s : State} {a : Word} (h : s.readDraws a = false) : s.afterRead a = s := by
  unfold State.afterRead
  simp [h]

theorem State.afterRead_busStep (s : State) (a : Word) : s.BusStep (s.afterRead a) := by
  rw [State.afterRead_eq]
  exact ⟨rfl, id⟩

/-- A bus read answers exactly when `peek` does, with its byte. -/
theorem busRead_eq_ok {a : Word} {s t : State} {v : Byte} :
    busRead a s = .ok (v, t) ↔ s.peek a = .ok v ∧ t = s.afterRead a := by
  unfold busRead
  rw [Res.bind_eq_ok]
  constructor
  · rintro ⟨w, hw, h⟩
    simp only [Res.pure_eq, Except.ok.injEq, Prod.mk.injEq] at h
    exact ⟨h.1 ▸ hw, h.2.symm⟩
  · rintro ⟨hv, rfl⟩
    exact ⟨v, hv, rfl⟩

theorem busRead_of_peek {a : Word} {s : State} {v : Byte} (h : s.peek a = .ok v) :
    busRead a s = .ok (v, s.afterRead a) := busRead_eq_ok.2 ⟨h, rfl⟩

theorem regionOf_overlay {cfg : Config} {a : Word} : regionOf cfg a = .overlay ↔ a.toNat ≤ 0x00FF := by
  unfold regionOf
  dsimp only
  generalize (if cfg.mapVariant = .contiguous then 1 else 0) = ext
  constructor
  · intro h
    by_contra hc
    rw [if_neg hc] at h
    repeat' split at h
    all_goals exact absurd h (by decide)
  · intro h
    rw [if_pos h]

/-- A read answers a byte unless the address is in the boot overlay with the latch false and no BIOS (R72). -/
theorem State.peek_of_readable {s : State} {a : Word} (h : s.readable a) : ∃ v, s.peek a = .ok v := by
  unfold State.peek
  cases hr : regionOf s.config a <;> simp only [Except.ok.injEq, exists_eq']
  have ha := regionOf_overlay.1 hr
  cases hl : s.bootLatch
  · cases hb : s.bios with
    | none => exact absurd ⟨ha, hl, hb⟩ h
    | some m => simp
  · simp

/-- The only condition a read raises is the fatal of R72, for its own address. -/
theorem State.peek_eq_error {s : State} {a : Word} {e : Stop} :
    s.peek a = .error e ↔ ¬ s.readable a ∧ e = .fault (.biosAbsent a) := by
  unfold State.readable
  rw [not_not, ← regionOf_overlay (cfg := s.config)]
  unfold State.peek
  cases hr : regionOf s.config a <;> simp
  cases hl : s.bootLatch
  · cases hb : s.bios <;> simp [eq_comm]
  · simp

theorem busRead_eq_error {a : Word} {s : State} {e : Stop} :
    busRead a s = .error e ↔ ¬ s.readable a ∧ e = .fault (.biosAbsent a) := by
  rw [← State.peek_eq_error]
  unfold busRead
  cases s.peek a <;> simp

theorem busRead_of_readable {a : Word} {s : State} (h : s.readable a) :
    ∃ v, s.peek a = .ok v ∧ busRead a s = .ok (v, s.afterRead a) := by
  obtain ⟨v, hv⟩ := State.peek_of_readable h
  exact ⟨v, hv, busRead_of_peek hv⟩

theorem busRead_busStep {a : Word} {s t : State} {v : Byte} (h : busRead a s = .ok (v, t)) : s.BusStep t := by
  rw [(busRead_eq_ok.1 h).2]
  exact s.afterRead_busStep a

/-- Readability depends on the latch and the BIOS only, and the bus only ever raises the latch. -/
theorem State.BusStep.readable {s t : State} (h : s.BusStep t) {a : Word} (hr : s.readable a) : t.readable a := by
  intro ⟨ha, hl, hb⟩
  refine hr ⟨ha, ?_, h.bios ▸ hb⟩
  cases hs : s.bootLatch
  · rfl
  · rw [h.latch hs] at hl; exact hl

/-! ### The DMA copy -/

theorem State.writeOam_busStep (s : State) (a : Nat) (v : Byte) : s.BusStep (s.writeOam a v) := ⟨rfl, id⟩

theorem dmaLoop_busStep {base : Word} {n i : Nat} {s t : State} (h : dmaLoop base n i s = .ok t) : s.BusStep t := by
  induction n generalizing i s with
  | zero => simp only [dmaLoop, Except.ok.injEq] at h; exact h ▸ State.BusStep.refl s
  | succ n ih =>
    unfold dmaLoop at h
    obtain ⟨⟨v, u⟩, hu, h⟩ := Res.bind_eq_ok.1 h
    exact (busRead_busStep hu).trans ((u.writeOam_busStep _ v).trans (ih h))

/-- A copy whose source is readable throughout completes. -/
theorem dmaLoop_completes {base : Word} {n i : Nat} {s : State}
    (h : ∀ j, i ≤ j → j < i + n → s.readable (base + BitVec.ofNat 16 j)) : ∃ t, dmaLoop base n i s = .ok t := by
  induction n generalizing i s with
  | zero => exact ⟨s, rfl⟩
  | succ n ih =>
    obtain ⟨v, -, hv⟩ := busRead_of_readable (h i (Nat.le_refl i) (by omega))
    have hs := (s.afterRead_busStep (base + BitVec.ofNat 16 i)).trans (State.writeOam_busStep _ (0xFE00 + i) v)
    obtain ⟨t, ht⟩ := ih (i := i + 1) fun j hj hj' => hs.readable (h j (by omega) (by omega))
    refine ⟨t, ?_⟩
    unfold dmaLoop
    rw [hv]
    exact ht

/-- The copy's condition, where it raises one, is the fatal of R72. -/
theorem dmaLoop_error {base : Word} {n i : Nat} {s : State} {e : Stop} (h : dmaLoop base n i s = .error e) :
    ∃ a, e = .fault (.biosAbsent a) := by
  induction n generalizing i s with
  | zero => simp [dmaLoop] at h
  | succ n ih =>
    unfold dmaLoop at h
    cases hb : busRead (base + BitVec.ofNat 16 i) s with
    | error e' =>
      rw [hb] at h
      simp only [Res.error_bind, Except.error.injEq] at h
      exact ⟨_, h ▸ (busRead_eq_error.1 hb).2⟩
    | ok p =>
      rw [hb] at h
      exact ih h

/-! ### Writes -/

theorem ioWrite_busStep {a : Word} {v : Byte} {s t : State} (h : ioWrite a v s = .ok t) : s.BusStep t := by
  have hm : s.BusStep (s.setMem (s.mem.write a.toNat v)) := ⟨rfl, id⟩
  unfold ioWrite at h
  simp only at h
  split at h
  case h_7 => exact hm.trans (dmaLoop_busStep h)
  all_goals
    simp only [Except.ok.injEq] at h
    subst h
    first
      | exact ⟨rfl, fun _ => rfl⟩
      | exact ⟨rfl, id⟩

theorem busWrite_busStep {a : Word} {v : Byte} {s t : State} (h : busWrite a v s = .ok t) : s.BusStep t := by
  unfold busWrite at h
  split at h
  case h_13 => exact ioWrite_busStep h
  all_goals
    simp only [Except.ok.injEq] at h
    subst h
    exact ⟨rfl, id⟩

/-- The source address of offset `j` of the copy started with `v` (R95). -/
theorem dmaSource_toNat (v : Byte) {j : Nat} (hj : j < 160) :
    (Word.ofBytes v 0 + BitVec.ofNat 16 j).toNat = v.toNat * 256 + j := by
  have hv := v.isLt
  rw [BitVec.toNat_add, BitVec.toNat_ofNat, Word.ofBytes_toNat, show (0 : Byte).toNat = 0 from rfl]
  omega

/-- A write completes unless it starts a DMA copy from an unreadable source (R71, R95). -/
theorem busWrite_completes {a : Word} {v : Byte} {s : State} (h : s.writable a v) : ∃ t, busWrite a v s = .ok t := by
  unfold busWrite
  cases hr : regionOf s.config a <;> simp only [Except.ok.injEq, exists_eq']
  unfold ioWrite
  simp only [State.setMem_config]
  cases hw : writeTapOf s.config.taps a <;> simp only [Except.ok.injEq, exists_eq']
  refine dmaLoop_completes fun j _ hj => ?_
  intro ⟨ha, hl, hb⟩
  refine h hr hw ?_ ⟨hl, hb⟩
  by_contra hv
  have h1 : v.toNat ≠ 0 := fun h0 => hv (by simpa using congrArg (BitVec.ofNat 8) h0)
  rw [dmaSource_toNat v (by omega)] at ha
  omega

/-- The copy from the absent BIOS is the fatal of its first source byte (R95). -/
theorem dmaCopy_absent {s : State} (hl : s.bootLatch = false) (hb : s.bios = none) :
    dmaCopy 0x00 s = .error (.fault (.biosAbsent 0x0000)) := by
  have h : busRead (Word.ofBytes 0x00 0 + BitVec.ofNat 16 0) s = .error (.fault (.biosAbsent 0x0000)) :=
    busRead_eq_error.2 ⟨fun h => h ⟨by decide, hl, hb⟩, rfl⟩
  unfold dmaCopy dmaLoop
  rw [h]
  rfl

/-- A write that is not writable is that fatal. -/
theorem busWrite_of_not_writable {a : Word} {v : Byte} {s : State} (h : ¬ s.writable a v) :
    busWrite a v s = .error (.fault (.biosAbsent 0x0000)) := by
  simp only [State.writable, Classical.not_imp, not_not] at h
  obtain ⟨hr, hw, rfl, hl, hb⟩ := h
  unfold busWrite ioWrite
  simp only [hr, State.setMem_config, hw]
  exact dmaCopy_absent hl hb

theorem busWrite_error {a : Word} {v : Byte} {s : State} {e : Stop} (h : busWrite a v s = .error e) :
    ∃ b, e = .fault (.biosAbsent b) := by
  unfold busWrite at h
  split at h
  case h_13 =>
    unfold ioWrite at h
    simp only at h
    split at h
    case h_7 => exact dmaLoop_error h
    all_goals simp at h
  all_goals simp at h

/-- Writability depends on the latch, the BIOS and the parameters only. -/
theorem State.BusStep.writable {s t : State} (h : s.BusStep t) {a : Word} {v : Byte} (hw : s.writable a v) :
    t.writable a v := by
  intro hr ht hv ⟨hl, hb⟩
  rw [h.config] at hr ht
  refine hw hr ht hv ⟨?_, h.bios ▸ hb⟩
  cases hs : s.bootLatch
  · rfl
  · rw [h.latch hs] at hl; exact hl

/-! ### Words and the stack -/

theorem memRead16_eq_ok {a : Word} {s t : State} {w : Word} :
    memRead16 a s = .ok (w, t) ↔ ∃ lo hi, s.peek a = .ok lo ∧ (s.afterRead a).peek (a + 1) = .ok hi ∧
      w = Word.ofBytes hi lo ∧ t = (s.afterRead a).afterRead (a + 1) := by
  unfold memRead16
  rw [Res.bind_eq_ok]
  constructor
  · rintro ⟨⟨lo, u⟩, hlo, h⟩
    obtain ⟨⟨hi, x⟩, hhi, h⟩ := Res.bind_eq_ok.1 h
    obtain ⟨h1, rfl⟩ := busRead_eq_ok.1 hlo
    obtain ⟨h2, rfl⟩ := busRead_eq_ok.1 hhi
    simp only [Res.pure_eq, Except.ok.injEq, Prod.mk.injEq] at h
    exact ⟨lo, hi, h1, h2, h.1.symm, h.2.symm⟩
  · rintro ⟨lo, hi, h1, h2, rfl, rfl⟩
    refine ⟨_, busRead_of_peek h1, ?_⟩
    simp only [busRead_of_peek h2, Res.ok_bind, Res.pure_eq]

theorem memRead16_busStep {a : Word} {s t : State} {w : Word} (h : memRead16 a s = .ok (w, t)) : s.BusStep t := by
  obtain ⟨lo, hi, -, -, -, rfl⟩ := memRead16_eq_ok.1 h
  exact (s.afterRead_busStep a).trans (State.afterRead_busStep _ _)

theorem memRead16_completes {a : Word} {s : State} (h₁ : s.readable a) (h₂ : s.readable (a + 1)) :
    ∃ w t, memRead16 a s = .ok (w, t) := by
  obtain ⟨lo, hlo⟩ := State.peek_of_readable h₁
  obtain ⟨hi, hhi⟩ := State.peek_of_readable ((s.afterRead_busStep a).readable h₂)
  exact ⟨_, _, memRead16_eq_ok.2 ⟨lo, hi, hlo, hhi, rfl, rfl⟩⟩

theorem memWrite16_eq_ok {a w : Word} {s t : State} :
    memWrite16 a w s = .ok t ↔ ∃ u, busWrite (a + 1) w.hi s = .ok u ∧ busWrite a w.lo u = .ok t :=
  Res.bind_eq_ok

theorem memWrite16_busStep {a w : Word} {s t : State} (h : memWrite16 a w s = .ok t) : s.BusStep t := by
  obtain ⟨u, h1, h2⟩ := memWrite16_eq_ok.1 h
  exact (busWrite_busStep h1).trans (busWrite_busStep h2)

theorem memWrite16_completes {a w : Word} {s : State} (h₁ : s.writable (a + 1) w.hi) (h₂ : s.writable a w.lo) :
    ∃ t, memWrite16 a w s = .ok t := by
  obtain ⟨u, hu⟩ := busWrite_completes h₁
  obtain ⟨t, ht⟩ := busWrite_completes ((busWrite_busStep hu).writable h₂)
  exact ⟨t, memWrite16_eq_ok.2 ⟨u, hu, ht⟩⟩

/-- A word write ends in the condition of its high byte's write, or else of its low byte's (R101, R405). -/
theorem memWrite16_eq_error {a w : Word} {s : State} {e : Stop} :
    memWrite16 a w s = .error e ↔ busWrite (a + 1) w.hi s = .error e ∨
      ∃ u, busWrite (a + 1) w.hi s = .ok u ∧ busWrite a w.lo u = .error e := by
  unfold memWrite16
  cases busWrite (a + 1) w.hi s <;> simp

/-- A word read ends in the fatal of the low byte's read, or else of the high byte's (R100, R405). -/
theorem memRead16_eq_error {a : Word} {s : State} {e : Stop} :
    memRead16 a s = .error e ↔ (¬ s.readable a ∧ e = .fault (.biosAbsent a)) ∨
      (s.readable a ∧ ¬ (s.afterRead a).readable (a + 1) ∧ e = .fault (.biosAbsent (a + 1))) := by
  unfold memRead16
  by_cases h : s.readable a
  · obtain ⟨v, -, hv⟩ := busRead_of_readable h
    rw [hv, Res.ok_bind]
    by_cases h2 : (s.afterRead a).readable (a + 1)
    · obtain ⟨w, -, hw⟩ := busRead_of_readable h2
      simp only [hw, Res.ok_bind, Res.pure_eq, reduceCtorEq, h, h2, not_true_eq_false, false_and, and_false, or_self]
    · simp only [busRead_eq_error.2 ⟨h2, rfl⟩, Res.error_bind, Except.error.injEq, h, h2, not_true_eq_false,
        not_false_eq_true, false_and, true_and, false_or]
      exact eq_comm
  · simp only [busRead_eq_error.2 ⟨h, rfl⟩, Res.error_bind, Except.error.injEq, h, not_false_eq_true, false_and, true_and,
      or_false]
    exact eq_comm

/-- A read changes neither the latch nor the BIOS, so it changes no address's readability. -/
theorem State.afterRead_readable {s : State} {a b : Word} : (s.afterRead a).readable b ↔ s.readable b := by
  rw [State.afterRead_eq]
  exact Iff.rfl

theorem push16_eq (v : Word) (s : State) : push16 v s = memWrite16 (s.sp - 2) v (s.setSp (s.sp - 2)) := rfl

theorem pop16_eq_ok {s t : State} {w : Word} :
    pop16 s = .ok (w, t) ↔ ∃ u, memRead16 s.sp s = .ok (w, u) ∧ t = u.setSp (s.sp + 2) := by
  unfold pop16
  rw [Res.bind_eq_ok]
  constructor
  · rintro ⟨⟨x, u⟩, hu, h⟩
    simp only [Res.pure_eq, Except.ok.injEq, Prod.mk.injEq] at h
    obtain ⟨rfl, rfl⟩ := h
    exact ⟨u, hu, by rw [(memRead16_busStep hu).sp]⟩
  · rintro ⟨u, hu, rfl⟩
    refine ⟨(w, u), hu, ?_⟩
    simp only [Res.pure_eq, (memRead16_busStep hu).sp]

end Sys2Proof.Machine
end

