-- ==== Sys2Proof/Laws/Region.lean ====
section
/-! SUPPORT. Which row of the routing table owns an address, range by range, and what a byte access does in each row
(R70, R71, R91, R92). -/

namespace Sys2Proof.Machine

/-! ### Ranges -/

variable {cfg : Config} {a : Word}

theorem regionOf_cart (h : 0x0100 ≤ a.toNat) (h' : a.toNat ≤ 0x7FFF) : regionOf cfg a = .cart := by
  unfold regionOf
  rw [if_neg (by omega), if_pos h']

theorem regionOf_vram (h : 0x8000 ≤ a.toNat) (h' : a.toNat ≤ 0x9FFF) : regionOf cfg a = .vram := by
  unfold regionOf
  rw [if_neg (by omega), if_neg (by omega), if_pos h']

theorem regionOf_extRam (h : 0xA000 ≤ a.toNat) (h' : a.toNat ≤ 0xBFFF) : regionOf cfg a = .extRam := by
  unfold regionOf
  rw [if_neg (by omega), if_neg (by omega), if_neg (by omega), if_pos h']

theorem regionOf_wram (h : 0xC000 ≤ a.toNat) (h' : a.toNat ≤ 0xDFFF) : regionOf cfg a = .wram := by
  unfold regionOf
  rw [if_neg (by omega), if_neg (by omega), if_neg (by omega), if_neg (by omega), if_pos h']

theorem regionOf_echo (h : 0xE000 ≤ a.toNat) (h' : a.toNat ≤ 0xFDFE) : regionOf cfg a = .echo := by
  unfold regionOf
  rw [if_neg (by omega), if_neg (by omega), if_neg (by omega), if_neg (by omega), if_neg (by omega)]
  exact if_pos (Nat.le_add_right_of_le h')

/-- The rows from 0xFE00 up. -/
theorem regionOf_high (h : 0xFE00 ≤ a.toNat) :
    regionOf cfg a =
      let ext := if cfg.mapVariant = .contiguous then 1 else 0
      if a.toNat ≤ 0xFE9E + ext then .oam
      else if 0xFEA0 ≤ a.toNat ∧ a.toNat ≤ 0xFEFE + ext then .unusable
      else if a.toNat = 0xFF0F then .ifReg
      else if 0xFF00 ≤ a.toNat ∧ a.toNat ≤ 0xFF7E + ext then .io
      else if 0xFF80 ≤ a.toNat ∧ a.toNat ≤ 0xFFFD + ext then .hram
      else if a.toNat = 0xFFFF then .ieReg
      else .unmapped := by
  unfold regionOf
  dsimp only
  generalize hx : (if cfg.mapVariant = .contiguous then 1 else 0 : Nat) = ext
  have hext : ext ≤ 1 := by rw [← hx]; split <;> omega
  rw [if_neg (by omega), if_neg (by omega), if_neg (by omega), if_neg (by omega), if_neg (by omega), if_neg (by omega)]
  simp only [h, true_and]

theorem regionOf_oam (h : 0xFE00 ≤ a.toNat) (h' : a.toNat ≤ 0xFE9E) : regionOf cfg a = .oam := by
  rw [regionOf_high h]
  exact if_pos (Nat.le_add_right_of_le h')

theorem regionOf_unusable (h : 0xFEA0 ≤ a.toNat) (h' : a.toNat ≤ 0xFEFE) : regionOf cfg a = .unusable := by
  rw [regionOf_high (by omega)]
  dsimp only
  rw [if_neg (by split <;> omega), if_pos ⟨h, Nat.le_add_right_of_le h'⟩]

theorem regionOf_ifReg : regionOf cfg 0xFF0F = .ifReg := by
  rw [regionOf_high (by decide)]
  dsimp only
  rw [if_neg (by split <;> decide), if_neg (by split <;> decide), if_pos (by decide)]

theorem regionOf_io (h : 0xFF00 ≤ a.toNat) (h' : a.toNat ≤ 0xFF7E) (hn : a ≠ 0xFF0F) : regionOf cfg a = .io := by
  have hn' : a.toNat ≠ 0xFF0F := fun h => hn (BitVec.eq_of_toNat_eq h)
  rw [regionOf_high (by omega)]
  dsimp only
  rw [if_neg (by split <;> omega), if_neg (by split <;> omega), if_neg hn', if_pos ⟨h, Nat.le_add_right_of_le h'⟩]

theorem regionOf_hram (h : 0xFF80 ≤ a.toNat) (h' : a.toNat ≤ 0xFFFD) : regionOf cfg a = .hram := by
  rw [regionOf_high (by omega)]
  dsimp only
  rw [if_neg (by split <;> omega), if_neg (by split <;> omega), if_neg (by omega), if_neg (by split <;> omega),
    if_pos ⟨h, Nat.le_add_right_of_le h'⟩]

theorem regionOf_ieReg : regionOf cfg 0xFFFF = .ieReg := by
  rw [regionOf_high (by decide)]
  dsimp only
  rw [if_neg (by split <;> decide), if_neg (by split <;> decide), if_neg (by decide), if_neg (by split <;> decide),
    if_neg (by split <;> decide), if_pos (by decide)]

/-- A conditional that has a value its first branch has not. -/
theorem ite_else {p : Prop} [Decidable p] {x y z : Region} (h : (if p then x else y) = z) (hx : x ≠ z) : ¬ p ∧ y = z := by
  by_cases hp : p
  · rw [if_pos hp] at h; exact absurd h hx
  · rw [if_neg hp] at h; exact ⟨hp, h⟩

/-- A conditional that has a value its second branch has not. -/
theorem ite_then {p : Prop} [Decidable p] {x y z : Region} (h : (if p then x else y) = z) (hy : y ≠ z) : p := by
  by_contra hp
  rw [if_neg hp] at h
  exact hy h

/-- Only 0xFF0F is IF's row, and only 0xFFFF is IE's. -/
theorem regionOf_registers : (regionOf cfg a = .ifReg → a = 0xFF0F) ∧ (regionOf cfg a = .ieReg → a = 0xFFFF) := by
  unfold regionOf
  constructor <;> intro h <;> apply BitVec.eq_of_toNat_eq
  · by_contra hn
    iterate 8 replace h := (ite_else h (by decide)).2
    replace h := (if_neg hn).symm.trans h
    iterate 3 replace h := (ite_else h (by decide)).2
    exact absurd h (by decide)
  · iterate 11 replace h := (ite_else h (by decide)).2
    exact ite_then h (by decide)

/-- The five skipped addresses as the tables of the manual give them (R91). -/
theorem regionOf_skipped (hm : cfg.mapVariant = .asDocumented)
    (h : a ∈ ([0xFDFF, 0xFE9F, 0xFEFF, 0xFF7F, 0xFFFE] : List Word)) : regionOf cfg a = .unmapped := by
  unfold regionOf
  rw [hm]
  fin_cases h <;> rfl

/-- The five skipped addresses under the contiguous map (R92). -/
theorem regionOf_skipped_contiguous (hm : cfg.mapVariant = .contiguous) :
    regionOf cfg 0xFDFF = .echo ∧ regionOf cfg 0xFE9F = .oam ∧ regionOf cfg 0xFEFF = .unusable ∧
      regionOf cfg 0xFF7F = .io ∧ regionOf cfg 0xFFFE = .hram := by
  unfold regionOf
  rw [hm]
  exact ⟨rfl, rfl, rfl, rfl, rfl⟩

/-! ### Taps -/

/-- A tap answers at its own address only (R80). -/
theorem readTapOf_address {t : TapAddr} {b : Word} :
    (readTapOf t b = .keypad → b = t.keypad) ∧ (readTapOf t b = .lcdc → b = t.lcdc) ∧
      (readTapOf t b = .scy → b = t.scy) ∧ (readTapOf t b = .scx → b = t.scx) ∧ (readTapOf t b = .ly → b = t.ly) := by
  unfold readTapOf
  repeat' split
  all_goals simp_all

theorem writeTapOf_address {t : TapAddr} {b : Word} :
    (writeTapOf t b = .boot → b = t.boot) ∧ (writeTapOf t b = .keypad → b = t.keypad) ∧
      (writeTapOf t b = .lcdc → b = t.lcdc) ∧ (writeTapOf t b = .scy → b = t.scy) ∧
      (writeTapOf t b = .scx → b = t.scx) ∧ (writeTapOf t b = .bgp → b = t.bgp) ∧
      (writeTapOf t b = .dma → b = t.dma) := by
  unfold writeTapOf
  repeat' split
  all_goals simp_all

/-- What a read of an I/O address depends on. -/
theorem State.ioPeek_congr {s t : State} {b : Word} (hc : t.config = s.config) (hd : t.draws = s.draws)
    (hm : t.mem.read b.toNat = s.mem.read b.toNat) (hl : b = s.config.taps.lcdc → t.gpu.lcdc = s.gpu.lcdc)
    (hy : b = s.config.taps.scy → t.gpu.scrollY = s.gpu.scrollY)
    (hx : b = s.config.taps.scx → t.gpu.scrollX = s.gpu.scrollX) : t.ioPeek b = s.ioPeek b := by
  obtain ⟨-, h1, h2, h3, -⟩ := readTapOf_address (t := s.config.taps) (b := b)
  unfold State.ioPeek
  rw [hc, hd, hm]
  cases hr : readTapOf s.config.taps b <;> dsimp only
  · rw [hl (h1 hr)]
  · exact hy (h2 hr)
  · exact hx (h3 hr)

/-! ### Accesses by row -/

variable {s : State} {v : Byte}

theorem State.readDraws_of_not_io (h : regionOf s.config a ≠ .io) : s.readDraws a = false := by
  unfold State.readDraws
  split
  · exact absurd ‹_› h
  · rfl

/-- A read outside the I/O block leaves the state as it was. -/
theorem busRead_not_io {w : Byte} (h : regionOf s.config a ≠ .io) (hp : s.peek a = .ok w) :
    busRead a s = .ok (w, s) := by
  rw [busRead_of_peek hp, State.afterRead_of_not_draws (State.readDraws_of_not_io h)]

theorem busRead_cart (h : regionOf s.config a = .cart) : busRead a s = .ok (s.cart.read a.toNat, s) :=
  busRead_not_io (by rw [h]; decide) (by unfold State.peek; rw [h])

/-- The rows whose cell is in `mem` under the address itself. -/
theorem busRead_cell (h : regionOf s.config a ∈ [Region.vram, .extRam, .wram, .oam, .hram]) :
    busRead a s = .ok (s.mem.read a.toNat, s) := by
  have : regionOf s.config a ≠ .io ∧ s.peek a = .ok (s.mem.read a.toNat) := by
    unfold State.peek
    revert h
    cases regionOf s.config a <;> simp
  exact busRead_not_io this.1 this.2

theorem busRead_echo (h : regionOf s.config a = .echo) :
    busRead a s = .ok (s.mem.read (echoKey s.config a), s) :=
  busRead_not_io (by rw [h]; decide) (by unfold State.peek; rw [h])

theorem busRead_ifReg : busRead 0xFF0F s = .ok (s.ifReg, s) :=
  busRead_not_io (by rw [regionOf_ifReg]; decide) (by unfold State.peek; rw [regionOf_ifReg])

theorem busRead_ieReg : busRead 0xFFFF s = .ok (s.ieReg, s) :=
  busRead_not_io (by rw [regionOf_ieReg]; decide) (by unfold State.peek; rw [regionOf_ieReg])

theorem busRead_zero (h : regionOf s.config a ∈ [Region.unusable, .unmapped]) : busRead a s = .ok (0, s) := by
  have : regionOf s.config a ≠ .io ∧ s.peek a = .ok 0 := by
    unfold State.peek
    revert h
    cases regionOf s.config a <;> simp
  exact busRead_not_io this.1 this.2

theorem busRead_io (h : regionOf s.config a = .io) : busRead a s = .ok (s.ioPeek a, s.afterRead a) :=
  busRead_of_peek (by unfold State.peek; rw [h])

theorem busWrite_dropped (h : regionOf s.config a ∈ [Region.overlay, .cart, .unusable, .unmapped]) :
    busWrite a v s = .ok s := by
  unfold busWrite
  revert h
  cases regionOf s.config a <;> simp

theorem busWrite_cell (h : regionOf s.config a ∈ [Region.vram, .extRam, .wram, .oam, .hram]) :
    busWrite a v s = .ok (s.setMem (s.mem.write a.toNat v)) := by
  unfold busWrite
  revert h
  cases regionOf s.config a <;> simp [State.writeOam]

theorem busWrite_echo (h : regionOf s.config a = .echo) :
    busWrite a v s = .ok (s.setMem (s.mem.write (echoKey s.config a) v)) := by
  unfold busWrite
  rw [h]

theorem busWrite_ifReg : busWrite 0xFF0F v s = .ok (s.setIf v) := by
  unfold busWrite
  rw [regionOf_ifReg]

theorem busWrite_ieReg : busWrite 0xFFFF v s = .ok (s.setIe v) := by
  unfold busWrite
  rw [regionOf_ieReg]

theorem busWrite_io (h : regionOf s.config a = .io) : busWrite a v s = ioWrite a v s := by
  unfold busWrite
  rw [h]

end Sys2Proof.Machine
end

