-- ==== Sys2Proof/Laws/Canonical.lean ====
section
/-! SUPPORT. Every memory operation keeps the canonical form of `mem` and its keys inside the stores, and the reset state has
both (R47, R49). -/

namespace Sys2Proof.Machine

/-- `mem` is in canonical form and lists cells of the stores only. -/
def Memory.Canonical (m : Memory) : Prop := m.wf = true ∧ ∀ k v, (k, v) ∈ m → cellKey k = true

theorem Memory.Canonical.write {m : Memory} (h : m.Canonical) {a : Nat} (v : Byte) (ha : cellKey a = true) :
    (m.write a v).Canonical := by
  refine ⟨Memory.write_wf a v h.1, fun k w hk => ?_⟩
  rcases Memory.mem_write hk with ⟨rfl, -⟩ | hk
  · exact ha
  · exact h.2 k w hk

theorem State.reset_canonical : State.reset.mem.Canonical := ⟨rfl, fun k v h => by cases h⟩

theorem cellKey_low {k : Nat} (h : 0x8000 ≤ k) (h' : k ≤ 0xFE9F) : cellKey k = true := by
  simp [cellKey, h, h']

theorem cellKey_high {k : Nat} (h : 0xFF00 ≤ k) (h' : k ≤ 0xFFFE) (hn : k ≠ 0xFF0F) : cellKey k = true := by
  simp [cellKey, h, h', hn]

/-- What the rows of the routing table say about an address and its cell. -/
theorem cellKey_of_region {cfg : Config} {a : Word}
    (h : regionOf cfg a ∈ [Region.vram, .extRam, .wram, .echo, .oam, .io, .hram]) :
    cellKey a.toNat = true ∧ (regionOf cfg a = .echo → cellKey (echoKey cfg a) = true) := by
  unfold echoKey
  unfold regionOf at h ⊢
  dsimp only at h ⊢
  generalize hx : (if cfg.mapVariant = .contiguous then 1 else 0 : Nat) = ext at h ⊢
  have hext : ext ≤ 1 := by rw [← hx]; split <;> omega
  by_cases h1 : a.toNat ≤ 0x00FF
  · rw [if_pos h1] at h; exact absurd h (by decide)
  by_cases h2 : a.toNat ≤ 0x7FFF
  · rw [if_neg h1, if_pos h2] at h; exact absurd h (by decide)
  by_cases h3 : a.toNat ≤ 0xDFFF
  · refine ⟨cellKey_low (by omega) (by omega), fun hc => ?_⟩
    rw [if_neg h1, if_neg h2] at hc
    repeat' split at hc
    all_goals exact absurd hc (by decide)
  by_cases h4 : a.toNat ≤ 0xFDFE + ext
  · refine ⟨cellKey_low (by omega) (by omega), fun _ => ?_⟩
    split <;> exact cellKey_low (by omega) (by omega)
  rw [if_neg h1, if_neg h2, if_neg (by omega), if_neg (by omega), if_neg h3, if_neg h4] at h ⊢
  by_cases h5 : 0xFE00 ≤ a.toNat ∧ a.toNat ≤ 0xFE9E + ext
  · rw [if_pos h5]
    exact ⟨cellKey_low (by omega) (by omega), fun hc => absurd hc (by decide)⟩
  rw [if_neg h5] at h ⊢
  by_cases h6 : 0xFEA0 ≤ a.toNat ∧ a.toNat ≤ 0xFEFE + ext
  · rw [if_pos h6] at h; exact absurd h (by decide)
  rw [if_neg h6] at h ⊢
  by_cases h7 : a.toNat = 0xFF0F
  · rw [if_pos h7] at h; exact absurd h (by decide)
  rw [if_neg h7] at h ⊢
  by_cases h8 : 0xFF00 ≤ a.toNat ∧ a.toNat ≤ 0xFF7E + ext
  · rw [if_pos h8]
    exact ⟨cellKey_high (by omega) (by omega) h7, fun hc => absurd hc (by decide)⟩
  rw [if_neg h8] at h ⊢
  by_cases h9 : 0xFF80 ≤ a.toNat ∧ a.toNat ≤ 0xFFFD + ext
  · rw [if_pos h9]
    exact ⟨cellKey_high (by omega) (by omega) (by omega), fun hc => absurd hc (by decide)⟩
  rw [if_neg h9] at h
  split at h <;> exact absurd h (by decide)

variable {s t : State} {a w : Word} {v : Byte}

theorem busRead_canonical (h : busRead a s = .ok (v, t)) (hc : s.mem.Canonical) : t.mem.Canonical := by
  rw [(busRead_eq_ok.1 h).2, State.afterRead_eq]
  exact hc

theorem dmaLoop_canonical {base : Word} {n i : Nat} (hi : i + n ≤ 160) (h : dmaLoop base n i s = .ok t)
    (hc : s.mem.Canonical) : t.mem.Canonical := by
  induction n generalizing i s with
  | zero => simp only [dmaLoop, Except.ok.injEq] at h; exact h ▸ hc
  | succ n ih =>
    unfold dmaLoop at h
    obtain ⟨⟨x, u⟩, hu, h⟩ := Res.bind_eq_ok.1 h
    exact ih (by omega) h ((busRead_canonical hu hc).write x (cellKey_low (by omega) (by omega)))

theorem busWrite_canonical (h : busWrite a v s = .ok t) (hc : s.mem.Canonical) : t.mem.Canonical := by
  have hk := cellKey_of_region (cfg := s.config) (a := a)
  unfold busWrite at h
  cases hr : regionOf s.config a <;> rw [hr] at h hk <;> simp only [Except.ok.injEq] at h
  case io =>
    have hm : (s.mem.write a.toNat v).Canonical := hc.write v (hk (by decide)).1
    unfold ioWrite at h
    simp only [State.setMem_config] at h
    cases hw : writeTapOf s.config.taps a <;> rw [hw] at h <;> simp only [Except.ok.injEq] at h
    case dma => exact dmaLoop_canonical (by omega) h hm
    all_goals subst h; exact hm
  case echo => subst h; exact hc.write v ((hk (by decide)).2 rfl)
  case vram | extRam | wram | oam | hram => subst h; exact hc.write v (hk (by decide)).1
  all_goals subst h; exact hc

theorem memRead16_canonical (h : memRead16 a s = .ok (w, t)) (hc : s.mem.Canonical) : t.mem.Canonical := by
  obtain ⟨lo, hi, -, -, -, rfl⟩ := memRead16_eq_ok.1 h
  rw [State.afterRead_eq, State.afterRead_eq]
  exact hc

theorem memWrite16_canonical (h : memWrite16 a w s = .ok t) (hc : s.mem.Canonical) : t.mem.Canonical := by
  obtain ⟨u, h1, h2⟩ := memWrite16_eq_ok.1 h
  exact busWrite_canonical h2 (busWrite_canonical h1 hc)

theorem push16_canonical (h : push16 w s = .ok t) (hc : s.mem.Canonical) : t.mem.Canonical :=
  memWrite16_canonical (s := s.setSp (s.sp - 2)) h hc

theorem pop16_canonical (h : pop16 s = .ok (w, t)) (hc : s.mem.Canonical) : t.mem.Canonical := by
  obtain ⟨u, hu, rfl⟩ := pop16_eq_ok.1 h
  have := memRead16_canonical hu hc
  exact this

end Sys2Proof.Machine
end

