-- ==== Sys2Proof/Laws/Families.lean ====
section
/-! SUPPORT. The instructions by group: what `exec` runs for each family function of Decode.lean, and the case split over
groups that stands for the case split over the 500 constructors. -/

namespace Sys2Proof.Machine

/-- Length and cost of the three forms of the ALU group (R250). -/
def aluDescriptor : AluSource → Descriptor
  | .reg _ => ⟨1, 1, 0⟩
  | .indHl => ⟨1, 2, 0⟩
  | .imm _ => ⟨2, 2, 0⟩

/-- Length and cost of INC and DEC of a byte (R259 to R262). -/
def rmwDescriptor : Operand8 → Descriptor
  | .reg _ => ⟨1, 1, 0⟩
  | .indHl => ⟨1, 3, 0⟩

/-- Length and cost in the extended space, with the cost of the (HL) form (R148, R304). -/
def extendedDescriptor (o : Operand8) (indCost : Nat) : Descriptor :=
  match o with
  | .reg _ => ⟨2, 2, 0⟩
  | .indHl => ⟨2, indCost, 0⟩

theorem exec_ldRegReg (dst src : Reg8) (s : State) :
    exec (Instr.ldRegReg dst src) s = perform ⟨1, 1, 0⟩ (handleLdRegReg dst src) s := by
  cases dst <;> cases src <;> rfl

theorem exec_ldRegN8 (dst : Reg8) (n : Byte) (s : State) :
    exec (Instr.ldRegN8 dst n) s = perform ⟨2, 2, 0⟩ (handleLdRegN8 dst n) s := by
  cases dst <;> rfl

theorem exec_ldRegIndHl (dst : Reg8) (s : State) :
    exec (Instr.ldRegIndHl dst) s = perform ⟨1, 2, 0⟩ (handleLdRegIndHl dst) s := by
  cases dst <;> rfl

theorem exec_ldIndHlReg (src : Reg8) (s : State) :
    exec (Instr.ldIndHlReg src) s = perform ⟨1, 2, 0⟩ (handleLdIndHlReg src) s := by
  cases src <;> rfl

theorem exec_ldPairN16 (p : Reg16) (n : Word) (s : State) :
    exec (Instr.ldPairN16 p n) s = perform ⟨3, 3, 0⟩ (handleLdPairN16 p n) s := by
  cases p <;> rfl

theorem exec_push (q : StackPair) (s : State) :
    exec (Instr.push q) s = perform ⟨1, 4, 0⟩ (handlePush q) s := by
  cases q <;> rfl

theorem exec_pop (q : StackPair) (s : State) :
    exec (Instr.pop q) s = perform ⟨1, 3, 0⟩ (handlePop q) s := by
  cases q <;> rfl

theorem exec_alu (op : AluOp) (src : AluSource) (s : State) :
    exec (Instr.alu op src) s = perform (aluDescriptor src) (handleAlu op src) s := by
  cases op <;> rcases src with r | _ | n <;> first | rfl | (cases r <;> rfl)

theorem exec_inc8 (o : Operand8) (s : State) :
    exec (Instr.inc8 o) s = perform (rmwDescriptor o) (handleInc8 o) s := by
  rcases o with r | _ <;> first | rfl | (cases r <;> rfl)

theorem exec_dec8 (o : Operand8) (s : State) :
    exec (Instr.dec8 o) s = perform (rmwDescriptor o) (handleDec8 o) s := by
  rcases o with r | _ <;> first | rfl | (cases r <;> rfl)

theorem exec_addHl (p : Reg16) (s : State) :
    exec (Instr.addHl p) s = perform ⟨1, 2, 0⟩ (handleAddHl p) s := by
  cases p <;> rfl

theorem exec_inc16 (p : Reg16) (s : State) :
    exec (Instr.inc16 p) s = perform ⟨1, 2, 0⟩ (handleInc16 p) s := by
  cases p <;> rfl

theorem exec_dec16 (p : Reg16) (s : State) :
    exec (Instr.dec16 p) s = perform ⟨1, 2, 0⟩ (handleDec16 p) s := by
  cases p <;> rfl

theorem exec_shift (op : ShiftOp) (o : Operand8) (s : State) :
    exec (Instr.shift op o) s = perform (extendedDescriptor o 4) (handleShift op o) s := by
  cases op <;> rcases o with r | _ <;> first | rfl | (cases r <;> rfl)

theorem exec_bit (b : BitIndex) (o : Operand8) (s : State) :
    exec (Instr.bit b o) s = perform (extendedDescriptor o 3) (handleBit b o) s := by
  cases b <;> rcases o with r | _ <;> first | rfl | (cases r <;> rfl)

theorem exec_res (b : BitIndex) (o : Operand8) (s : State) :
    exec (Instr.res b o) s = perform (extendedDescriptor o 4) (handleRes b o) s := by
  cases b <;> rcases o with r | _ <;> first | rfl | (cases r <;> rfl)

theorem exec_set (b : BitIndex) (o : Operand8) (s : State) :
    exec (Instr.set b o) s = perform (extendedDescriptor o 4) (handleSet b o) s := by
  cases b <;> rcases o with r | _ <;> first | rfl | (cases r <;> rfl)

theorem exec_jpCond (cc : Cond) (a : Word) (s : State) :
    exec (Instr.jpCond cc a) s = perform ⟨3, 3, 1⟩ (handleJpCond cc a) s := by
  cases cc <;> rfl

theorem exec_jrCond (cc : Cond) (e : Byte) (s : State) :
    exec (Instr.jrCond cc e) s = perform ⟨2, 2, 1⟩ (handleJrCond cc e) s := by
  cases cc <;> rfl

theorem exec_callCond (cc : Cond) (a : Word) (s : State) :
    exec (Instr.callCond cc a) s = perform ⟨3, 3, 3⟩ (handleCallCond cc a) s := by
  cases cc <;> rfl

theorem exec_retCond (cc : Cond) (s : State) :
    exec (Instr.retCond cc) s = perform ⟨1, 2, 3⟩ (handleRetCond cc) s := by
  cases cc <;> rfl

theorem exec_rst (t : RstTarget) (s : State) :
    exec (Instr.rst t) s = perform ⟨1, 4, 0⟩ (handleRst t) s := by
  cases t <;> rfl

/-! ### The instructions that are a group of their own -/

theorem exec_nop (s : State) : exec .nop s = perform ⟨1, 1, 0⟩ handleNop s := rfl
theorem exec_ldIndBcA (s : State) : exec .ldIndBcA s = perform ⟨1, 2, 0⟩ (handleStoreA s.bc) s := rfl
theorem exec_rlca (s : State) : exec .rlca s = perform ⟨1, 1, 0⟩ (handleRotateA .rlc) s := rfl
theorem exec_ldIndA16Sp (a : Word) (s : State) : exec (.ldIndA16Sp a) s = perform ⟨3, 5, 0⟩ (handleLdIndA16Sp a) s := rfl
theorem exec_ldAIndBc (s : State) : exec .ldAIndBc s = perform ⟨1, 2, 0⟩ (handleLoadA s.bc) s := rfl
theorem exec_rrca (s : State) : exec .rrca s = perform ⟨1, 1, 0⟩ (handleRotateA .rrc) s := rfl
theorem exec_stop (s : State) : exec .stop s = perform ⟨2, 1, 0⟩ handleStop s := rfl
theorem exec_ldIndDeA (s : State) : exec .ldIndDeA s = perform ⟨1, 2, 0⟩ (handleStoreA s.de) s := rfl
theorem exec_rla (s : State) : exec .rla s = perform ⟨1, 1, 0⟩ (handleRotateA .rl) s := rfl
theorem exec_jrE8 (e : Byte) (s : State) : exec (.jrE8 e) s = perform ⟨2, 3, 0⟩ (handleJr e) s := rfl
theorem exec_ldAIndDe (s : State) : exec .ldAIndDe s = perform ⟨1, 2, 0⟩ (handleLoadA s.de) s := rfl
theorem exec_rra (s : State) : exec .rra s = perform ⟨1, 1, 0⟩ (handleRotateA .rr) s := rfl
theorem exec_ldIndHlIncA (s : State) : exec .ldIndHlIncA s = perform ⟨1, 2, 0⟩ (handleStoreAMoveHl 1) s := rfl
theorem exec_daa (s : State) : exec .daa s = perform ⟨1, 1, 0⟩ handleDaa s := rfl
theorem exec_ldAIndHlInc (s : State) : exec .ldAIndHlInc s = perform ⟨1, 2, 0⟩ (handleLoadAMoveHl 1) s := rfl
theorem exec_cpl (s : State) : exec .cpl s = perform ⟨1, 1, 0⟩ handleCpl s := rfl
theorem exec_ldIndHlDecA (s : State) : exec .ldIndHlDecA s = perform ⟨1, 2, 0⟩ (handleStoreAMoveHl (-1)) s := rfl
theorem exec_ldIndHlN8 (n : Byte) (s : State) : exec (.ldIndHlN8 n) s = perform ⟨2, 3, 0⟩ (handleLdIndHlN8 n) s := rfl
theorem exec_scf (s : State) : exec .scf s = perform ⟨1, 1, 0⟩ handleScf s := rfl
theorem exec_ldAIndHlDec (s : State) : exec .ldAIndHlDec s = perform ⟨1, 2, 0⟩ (handleLoadAMoveHl (-1)) s := rfl
theorem exec_ccf (s : State) : exec .ccf s = perform ⟨1, 1, 0⟩ handleCcf s := rfl
theorem exec_halt (s : State) : exec .halt s = perform ⟨1, 1, 0⟩ handleHalt s := rfl
theorem exec_jpA16 (a : Word) (s : State) : exec (.jpA16 a) s = perform ⟨3, 4, 0⟩ (handleJp a) s := rfl
theorem exec_ret (s : State) : exec .ret s = perform ⟨1, 4, 0⟩ handleRet s := rfl
theorem exec_callA16 (a : Word) (s : State) : exec (.callA16 a) s = perform ⟨3, 6, 0⟩ (handleCall a) s := rfl
theorem exec_reti (s : State) : exec .reti s = perform ⟨1, 4, 0⟩ handleReti s := rfl
theorem exec_ldhIndA8A (n : Byte) (s : State) : exec (.ldhIndA8A n) s = perform ⟨2, 3, 0⟩ (handleStoreA (highPage n)) s := rfl
theorem exec_ldIndCA (s : State) : exec .ldIndCA s = perform ⟨1, 2, 0⟩ (handleStoreA (highPage s.c)) s := rfl
theorem exec_addSpE8 (e : Byte) (s : State) : exec (.addSpE8 e) s = perform ⟨2, 4, 0⟩ (handleAddSpE8 e) s := rfl
theorem exec_jpHl (s : State) : exec .jpHl s = perform ⟨1, 1, 0⟩ (handleJp s.hl) s := rfl
theorem exec_ldIndA16A (a : Word) (s : State) : exec (.ldIndA16A a) s = perform ⟨3, 4, 0⟩ (handleStoreA a) s := rfl
theorem exec_ldhAIndA8 (n : Byte) (s : State) : exec (.ldhAIndA8 n) s = perform ⟨2, 3, 0⟩ (handleLoadA (highPage n)) s := rfl
theorem exec_ldAIndC (s : State) : exec .ldAIndC s = perform ⟨1, 2, 0⟩ (handleLoadA (highPage s.c)) s := rfl
theorem exec_di (s : State) : exec .di s = perform ⟨1, 1, 0⟩ handleDi s := rfl
theorem exec_ldHlSpE8 (e : Byte) (s : State) : exec (.ldHlSpE8 e) s = perform ⟨2, 3, 0⟩ (handleLdHlSpE8 e) s := rfl
theorem exec_ldSpHl (s : State) : exec .ldSpHl s = perform ⟨1, 2, 0⟩ handleLdSpHl s := rfl
theorem exec_ldAIndA16 (a : Word) (s : State) : exec (.ldAIndA16 a) s = perform ⟨3, 4, 0⟩ (handleLoadA a) s := rfl
theorem exec_ei (s : State) : exec .ei s = perform ⟨1, 1, 0⟩ handleEi s := rfl

end Sys2Proof.Machine

namespace Sys2Proof

/-- Case analysis over the groups: a property of every group's instructions is a property of every instruction. -/
theorem Instr.byFamily {P : Instr → Prop}
    (ldRegReg : ∀ (dst src : Reg8), P (Instr.ldRegReg dst src))
    (ldRegN8 : ∀ (dst : Reg8) (n : Byte), P (Instr.ldRegN8 dst n))
    (ldRegIndHl : ∀ (dst : Reg8), P (Instr.ldRegIndHl dst))
    (ldIndHlReg : ∀ (src : Reg8), P (Instr.ldIndHlReg src))
    (ldPairN16 : ∀ (p : Reg16) (n : Word), P (Instr.ldPairN16 p n))
    (push : ∀ (q : StackPair), P (Instr.push q))
    (pop : ∀ (q : StackPair), P (Instr.pop q))
    (alu : ∀ (op : AluOp) (src : AluSource), P (Instr.alu op src))
    (inc8 : ∀ (o : Operand8), P (Instr.inc8 o))
    (dec8 : ∀ (o : Operand8), P (Instr.dec8 o))
    (addHl : ∀ (p : Reg16), P (Instr.addHl p))
    (inc16 : ∀ (p : Reg16), P (Instr.inc16 p))
    (dec16 : ∀ (p : Reg16), P (Instr.dec16 p))
    (shift : ∀ (op : ShiftOp) (o : Operand8), P (Instr.shift op o))
    (bit : ∀ (b : BitIndex) (o : Operand8), P (Instr.bit b o))
    (res : ∀ (b : BitIndex) (o : Operand8), P (Instr.res b o))
    (set : ∀ (b : BitIndex) (o : Operand8), P (Instr.set b o))
    (jpCond : ∀ (cc : Cond) (a : Word), P (Instr.jpCond cc a))
    (jrCond : ∀ (cc : Cond) (e : Byte), P (Instr.jrCond cc e))
    (callCond : ∀ (cc : Cond) (a : Word), P (Instr.callCond cc a))
    (retCond : ∀ (cc : Cond), P (Instr.retCond cc))
    (rst : ∀ (t : RstTarget), P (Instr.rst t))
    (nop : P .nop)
    (ldIndBcA : P .ldIndBcA)
    (rlca : P .rlca)
    (ldIndA16Sp : ∀ (n : Word), P (.ldIndA16Sp n))
    (ldAIndBc : P .ldAIndBc)
    (rrca : P .rrca)
    (stop : P .stop)
    (ldIndDeA : P .ldIndDeA)
    (rla : P .rla)
    (jrE8 : ∀ (n : Byte), P (.jrE8 n))
    (ldAIndDe : P .ldAIndDe)
    (rra : P .rra)
    (ldIndHlIncA : P .ldIndHlIncA)
    (daa : P .daa)
    (ldAIndHlInc : P .ldAIndHlInc)
    (cpl : P .cpl)
    (ldIndHlDecA : P .ldIndHlDecA)
    (ldIndHlN8 : ∀ (n : Byte), P (.ldIndHlN8 n))
    (scf : P .scf)
    (ldAIndHlDec : P .ldAIndHlDec)
    (ccf : P .ccf)
    (halt : P .halt)
    (jpA16 : ∀ (n : Word), P (.jpA16 n))
    (ret : P .ret)
    (callA16 : ∀ (n : Word), P (.callA16 n))
    (reti : P .reti)
    (ldhIndA8A : ∀ (n : Byte), P (.ldhIndA8A n))
    (ldIndCA : P .ldIndCA)
    (addSpE8 : ∀ (n : Byte), P (.addSpE8 n))
    (jpHl : P .jpHl)
    (ldIndA16A : ∀ (n : Word), P (.ldIndA16A n))
    (ldhAIndA8 : ∀ (n : Byte), P (.ldhAIndA8 n))
    (ldAIndC : P .ldAIndC)
    (di : P .di)
    (ldHlSpE8 : ∀ (n : Byte), P (.ldHlSpE8 n))
    (ldSpHl : P .ldSpHl)
    (ldAIndA16 : ∀ (n : Word), P (.ldAIndA16 n))
    (ei : P .ei) :
    (i : Instr) → P i
  | .nop => nop
  | .ldBcN16 n => ldPairN16 .bc n
  | .ldIndBcA => ldIndBcA
  | .incBc => inc16 .bc
  | .incB => inc8 (.reg .b)
  | .decB => dec8 (.reg .b)
  | .ldBN8 n => ldRegN8 .b n
  | .rlca => rlca
  | .ldIndA16Sp n => ldIndA16Sp n
  | .addHlBc => addHl .bc
  | .ldAIndBc => ldAIndBc
  | .decBc => dec16 .bc
  | .incC => inc8 (.reg .c)
  | .decC => dec8 (.reg .c)
  | .ldCN8 n => ldRegN8 .c n
  | .rrca => rrca
  | .stop => stop
  | .ldDeN16 n => ldPairN16 .de n
  | .ldIndDeA => ldIndDeA
  | .incDe => inc16 .de
  | .incD => inc8 (.reg .d)
  | .decD => dec8 (.reg .d)
  | .ldDN8 n => ldRegN8 .d n
  | .rla => rla
  | .jrE8 n => jrE8 n
  | .addHlDe => addHl .de
  | .ldAIndDe => ldAIndDe
  | .decDe => dec16 .de
  | .incE => inc8 (.reg .e)
  | .decE => dec8 (.reg .e)
  | .ldEN8 n => ldRegN8 .e n
  | .rra => rra
  | .jrNzE8 n => jrCond .nz n
  | .ldHlN16 n => ldPairN16 .hl n
  | .ldIndHlIncA => ldIndHlIncA
  | .incHl => inc16 .hl
  | .incH => inc8 (.reg .h)
  | .decH => dec8 (.reg .h)
  | .ldHN8 n => ldRegN8 .h n
  | .daa => daa
  | .jrZE8 n => jrCond .z n
  | .addHlHl => addHl .hl
  | .ldAIndHlInc => ldAIndHlInc
  | .decHl => dec16 .hl
  | .incL => inc8 (.reg .l)
  | .decL => dec8 (.reg .l)
  | .ldLN8 n => ldRegN8 .l n
  | .cpl => cpl
  | .jrNcE8 n => jrCond .nc n
  | .ldSpN16 n => ldPairN16 .sp n
  | .ldIndHlDecA => ldIndHlDecA
  | .incSp => inc16 .sp
  | .incIndHl => inc8 .indHl
  | .decIndHl => dec8 .indHl
  | .ldIndHlN8 n => ldIndHlN8 n
  | .scf => scf
  | .jrCE8 n => jrCond .c n
  | .addHlSp => addHl .sp
  | .ldAIndHlDec => ldAIndHlDec
  | .decSp => dec16 .sp
  | .incA => inc8 (.reg .a)
  | .decA => dec8 (.reg .a)
  | .ldAN8 n => ldRegN8 .a n
  | .ccf => ccf
  | .ldBB => ldRegReg .b .b
  | .ldBC => ldRegReg .b .c
  | .ldBD => ldRegReg .b .d
  | .ldBE => ldRegReg .b .e
  | .ldBH => ldRegReg .b .h
  | .ldBL => ldRegReg .b .l
  | .ldBIndHl => ldRegIndHl .b
  | .ldBA => ldRegReg .b .a
  | .ldCB => ldRegReg .c .b
  | .ldCC => ldRegReg .c .c
  | .ldCD => ldRegReg .c .d
  | .ldCE => ldRegReg .c .e
  | .ldCH => ldRegReg .c .h
  | .ldCL => ldRegReg .c .l
  | .ldCIndHl => ldRegIndHl .c
  | .ldCA => ldRegReg .c .a
  | .ldDB => ldRegReg .d .b
  | .ldDC => ldRegReg .d .c
  | .ldDD => ldRegReg .d .d
  | .ldDE => ldRegReg .d .e
  | .ldDH => ldRegReg .d .h
  | .ldDL => ldRegReg .d .l
  | .ldDIndHl => ldRegIndHl .d
  | .ldDA => ldRegReg .d .a
  | .ldEB => ldRegReg .e .b
  | .ldEC => ldRegReg .e .c
  | .ldED => ldRegReg .e .d
  | .ldEE => ldRegReg .e .e
  | .ldEH => ldRegReg .e .h
  | .ldEL => ldRegReg .e .l
  | .ldEIndHl => ldRegIndHl .e
  | .ldEA => ldRegReg .e .a
  | .ldHB => ldRegReg .h .b
  | .ldHC => ldRegReg .h .c
  | .ldHD => ldRegReg .h .d
  | .ldHE => ldRegReg .h .e
  | .ldHH => ldRegReg .h .h
  | .ldHL => ldRegReg .h .l
  | .ldHIndHl => ldRegIndHl .h
  | .ldHA => ldRegReg .h .a
  | .ldLB => ldRegReg .l .b
  | .ldLC => ldRegReg .l .c
  | .ldLD => ldRegReg .l .d
  | .ldLE => ldRegReg .l .e
  | .ldLH => ldRegReg .l .h
  | .ldLL => ldRegReg .l .l
  | .ldLIndHl => ldRegIndHl .l
  | .ldLA => ldRegReg .l .a
  | .ldIndHlB => ldIndHlReg .b
  | .ldIndHlC => ldIndHlReg .c
  | .ldIndHlD => ldIndHlReg .d
  | .ldIndHlE => ldIndHlReg .e
  | .ldIndHlH => ldIndHlReg .h
  | .ldIndHlL => ldIndHlReg .l
  | .halt => halt
  | .ldIndHlA => ldIndHlReg .a
  | .ldAB => ldRegReg .a .b
  | .ldAC => ldRegReg .a .c
  | .ldAD => ldRegReg .a .d
  | .ldAE => ldRegReg .a .e
  | .ldAH => ldRegReg .a .h
  | .ldAL => ldRegReg .a .l
  | .ldAIndHl => ldRegIndHl .a
  | .ldAA => ldRegReg .a .a
  | .addAB => alu .add (.reg .b)
  | .addAC => alu .add (.reg .c)
  | .addAD => alu .add (.reg .d)
  | .addAE => alu .add (.reg .e)
  | .addAH => alu .add (.reg .h)
  | .addAL => alu .add (.reg .l)
  | .addAIndHl => alu .add .indHl
  | .addAA => alu .add (.reg .a)
  | .adcAB => alu .adc (.reg .b)
  | .adcAC => alu .adc (.reg .c)
  | .adcAD => alu .adc (.reg .d)
  | .adcAE => alu .adc (.reg .e)
  | .adcAH => alu .adc (.reg .h)
  | .adcAL => alu .adc (.reg .l)
  | .adcAIndHl => alu .adc .indHl
  | .adcAA => alu .adc (.reg .a)
  | .subAB => alu .sub (.reg .b)
  | .subAC => alu .sub (.reg .c)
  | .subAD => alu .sub (.reg .d)
  | .subAE => alu .sub (.reg .e)
  | .subAH => alu .sub (.reg .h)
  | .subAL => alu .sub (.reg .l)
  | .subAIndHl => alu .sub .indHl
  | .subAA => alu .sub (.reg .a)
  | .sbcAB => alu .sbc (.reg .b)
  | .sbcAC => alu .sbc (.reg .c)
  | .sbcAD => alu .sbc (.reg .d)
  | .sbcAE => alu .sbc (.reg .e)
  | .sbcAH => alu .sbc (.reg .h)
  | .sbcAL => alu .sbc (.reg .l)
  | .sbcAIndHl => alu .sbc .indHl
  | .sbcAA => alu .sbc (.reg .a)
  | .andAB => alu .and (.reg .b)
  | .andAC => alu .and (.reg .c)
  | .andAD => alu .and (.reg .d)
  | .andAE => alu .and (.reg .e)
  | .andAH => alu .and (.reg .h)
  | .andAL => alu .and (.reg .l)
  | .andAIndHl => alu .and .indHl
  | .andAA => alu .and (.reg .a)
  | .xorAB => alu .xor (.reg .b)
  | .xorAC => alu .xor (.reg .c)
  | .xorAD => alu .xor (.reg .d)
  | .xorAE => alu .xor (.reg .e)
  | .xorAH => alu .xor (.reg .h)
  | .xorAL => alu .xor (.reg .l)
  | .xorAIndHl => alu .xor .indHl
  | .xorAA => alu .xor (.reg .a)
  | .orAB => alu .or (.reg .b)
  | .orAC => alu .or (.reg .c)
  | .orAD => alu .or (.reg .d)
  | .orAE => alu .or (.reg .e)
  | .orAH => alu .or (.reg .h)
  | .orAL => alu .or (.reg .l)
  | .orAIndHl => alu .or .indHl
  | .orAA => alu .or (.reg .a)
  | .cpAB => alu .cp (.reg .b)
  | .cpAC => alu .cp (.reg .c)
  | .cpAD => alu .cp (.reg .d)
  | .cpAE => alu .cp (.reg .e)
  | .cpAH => alu .cp (.reg .h)
  | .cpAL => alu .cp (.reg .l)
  | .cpAIndHl => alu .cp .indHl
  | .cpAA => alu .cp (.reg .a)
  | .retNz => retCond .nz
  | .popBc => pop .bc
  | .jpNzA16 n => jpCond .nz n
  | .jpA16 n => jpA16 n
  | .callNzA16 n => callCond .nz n
  | .pushBc => push .bc
  | .addAN8 n => alu .add (.imm n)
  | .rst00 => rst .t00
  | .retZ => retCond .z
  | .ret => ret
  | .jpZA16 n => jpCond .z n
  | .callZA16 n => callCond .z n
  | .callA16 n => callA16 n
  | .adcAN8 n => alu .adc (.imm n)
  | .rst08 => rst .t08
  | .retNc => retCond .nc
  | .popDe => pop .de
  | .jpNcA16 n => jpCond .nc n
  | .callNcA16 n => callCond .nc n
  | .pushDe => push .de
  | .subAN8 n => alu .sub (.imm n)
  | .rst10 => rst .t10
  | .retC => retCond .c
  | .reti => reti
  | .jpCA16 n => jpCond .c n
  | .callCA16 n => callCond .c n
  | .sbcAN8 n => alu .sbc (.imm n)
  | .rst18 => rst .t18
  | .ldhIndA8A n => ldhIndA8A n
  | .popHl => pop .hl
  | .ldIndCA => ldIndCA
  | .pushHl => push .hl
  | .andAN8 n => alu .and (.imm n)
  | .rst20 => rst .t20
  | .addSpE8 n => addSpE8 n
  | .jpHl => jpHl
  | .ldIndA16A n => ldIndA16A n
  | .xorAN8 n => alu .xor (.imm n)
  | .rst28 => rst .t28
  | .ldhAIndA8 n => ldhAIndA8 n
  | .popAf => pop .af
  | .ldAIndC => ldAIndC
  | .di => di
  | .pushAf => push .af
  | .orAN8 n => alu .or (.imm n)
  | .rst30 => rst .t30
  | .ldHlSpE8 n => ldHlSpE8 n
  | .ldSpHl => ldSpHl
  | .ldAIndA16 n => ldAIndA16 n
  | .ei => ei
  | .cpAN8 n => alu .cp (.imm n)
  | .rst38 => rst .t38
  | .rlcB => shift .rlc (.reg .b)
  | .rlcC => shift .rlc (.reg .c)
  | .rlcD => shift .rlc (.reg .d)
  | .rlcE => shift .rlc (.reg .e)
  | .rlcH => shift .rlc (.reg .h)
  | .rlcL => shift .rlc (.reg .l)
  | .rlcIndHl => shift .rlc .indHl
  | .rlcA => shift .rlc (.reg .a)
  | .rrcB => shift .rrc (.reg .b)
  | .rrcC => shift .rrc (.reg .c)
  | .rrcD => shift .rrc (.reg .d)
  | .rrcE => shift .rrc (.reg .e)
  | .rrcH => shift .rrc (.reg .h)
  | .rrcL => shift .rrc (.reg .l)
  | .rrcIndHl => shift .rrc .indHl
  | .rrcA => shift .rrc (.reg .a)
  | .rlB => shift .rl (.reg .b)
  | .rlC => shift .rl (.reg .c)
  | .rlD => shift .rl (.reg .d)
  | .rlE => shift .rl (.reg .e)
  | .rlH => shift .rl (.reg .h)
  | .rlL => shift .rl (.reg .l)
  | .rlIndHl => shift .rl .indHl
  | .rlA => shift .rl (.reg .a)
  | .rrB => shift .rr (.reg .b)
  | .rrC => shift .rr (.reg .c)
  | .rrD => shift .rr (.reg .d)
  | .rrE => shift .rr (.reg .e)
  | .rrH => shift .rr (.reg .h)
  | .rrL => shift .rr (.reg .l)
  | .rrIndHl => shift .rr .indHl
  | .rrA => shift .rr (.reg .a)
  | .slaB => shift .sla (.reg .b)
  | .slaC => shift .sla (.reg .c)
  | .slaD => shift .sla (.reg .d)
  | .slaE => shift .sla (.reg .e)
  | .slaH => shift .sla (.reg .h)
  | .slaL => shift .sla (.reg .l)
  | .slaIndHl => shift .sla .indHl
  | .slaA => shift .sla (.reg .a)
  | .sraB => shift .sra (.reg .b)
  | .sraC => shift .sra (.reg .c)
  | .sraD => shift .sra (.reg .d)
  | .sraE => shift .sra (.reg .e)
  | .sraH => shift .sra (.reg .h)
  | .sraL => shift .sra (.reg .l)
  | .sraIndHl => shift .sra .indHl
  | .sraA => shift .sra (.reg .a)
  | .swapB => shift .swap (.reg .b)
  | .swapC => shift .swap (.reg .c)
  | .swapD => shift .swap (.reg .d)
  | .swapE => shift .swap (.reg .e)
  | .swapH => shift .swap (.reg .h)
  | .swapL => shift .swap (.reg .l)
  | .swapIndHl => shift .swap .indHl
  | .swapA => shift .swap (.reg .a)
  | .srlB => shift .srl (.reg .b)
  | .srlC => shift .srl (.reg .c)
  | .srlD => shift .srl (.reg .d)
  | .srlE => shift .srl (.reg .e)
  | .srlH => shift .srl (.reg .h)
  | .srlL => shift .srl (.reg .l)
  | .srlIndHl => shift .srl .indHl
  | .srlA => shift .srl (.reg .a)
  | .bit0B => bit .b0 (.reg .b)
  | .bit0C => bit .b0 (.reg .c)
  | .bit0D => bit .b0 (.reg .d)
  | .bit0E => bit .b0 (.reg .e)
  | .bit0H => bit .b0 (.reg .h)
  | .bit0L => bit .b0 (.reg .l)
  | .bit0IndHl => bit .b0 .indHl
  | .bit0A => bit .b0 (.reg .a)
  | .bit1B => bit .b1 (.reg .b)
  | .bit1C => bit .b1 (.reg .c)
  | .bit1D => bit .b1 (.reg .d)
  | .bit1E => bit .b1 (.reg .e)
  | .bit1H => bit .b1 (.reg .h)
  | .bit1L => bit .b1 (.reg .l)
  | .bit1IndHl => bit .b1 .indHl
  | .bit1A => bit .b1 (.reg .a)
  | .bit2B => bit .b2 (.reg .b)
  | .bit2C => bit .b2 (.reg .c)
  | .bit2D => bit .b2 (.reg .d)
  | .bit2E => bit .b2 (.reg .e)
  | .bit2H => bit .b2 (.reg .h)
  | .bit2L => bit .b2 (.reg .l)
  | .bit2IndHl => bit .b2 .indHl
  | .bit2A => bit .b2 (.reg .a)
  | .bit3B => bit .b3 (.reg .b)
  | .bit3C => bit .b3 (.reg .c)
  | .bit3D => bit .b3 (.reg .d)
  | .bit3E => bit .b3 (.reg .e)
  | .bit3H => bit .b3 (.reg .h)
  | .bit3L => bit .b3 (.reg .l)
  | .bit3IndHl => bit .b3 .indHl
  | .bit3A => bit .b3 (.reg .a)
  | .bit4B => bit .b4 (.reg .b)
  | .bit4C => bit .b4 (.reg .c)
  | .bit4D => bit .b4 (.reg .d)
  | .bit4E => bit .b4 (.reg .e)
  | .bit4H => bit .b4 (.reg .h)
  | .bit4L => bit .b4 (.reg .l)
  | .bit4IndHl => bit .b4 .indHl
  | .bit4A => bit .b4 (.reg .a)
  | .bit5B => bit .b5 (.reg .b)
  | .bit5C => bit .b5 (.reg .c)
  | .bit5D => bit .b5 (.reg .d)
  | .bit5E => bit .b5 (.reg .e)
  | .bit5H => bit .b5 (.reg .h)
  | .bit5L => bit .b5 (.reg .l)
  | .bit5IndHl => bit .b5 .indHl
  | .bit5A => bit .b5 (.reg .a)
  | .bit6B => bit .b6 (.reg .b)
  | .bit6C => bit .b6 (.reg .c)
  | .bit6D => bit .b6 (.reg .d)
  | .bit6E => bit .b6 (.reg .e)
  | .bit6H => bit .b6 (.reg .h)
  | .bit6L => bit .b6 (.reg .l)
  | .bit6IndHl => bit .b6 .indHl
  | .bit6A => bit .b6 (.reg .a)
  | .bit7B => bit .b7 (.reg .b)
  | .bit7C => bit .b7 (.reg .c)
  | .bit7D => bit .b7 (.reg .d)
  | .bit7E => bit .b7 (.reg .e)
  | .bit7H => bit .b7 (.reg .h)
  | .bit7L => bit .b7 (.reg .l)
  | .bit7IndHl => bit .b7 .indHl
  | .bit7A => bit .b7 (.reg .a)
  | .res0B => res .b0 (.reg .b)
  | .res0C => res .b0 (.reg .c)
  | .res0D => res .b0 (.reg .d)
  | .res0E => res .b0 (.reg .e)
  | .res0H => res .b0 (.reg .h)
  | .res0L => res .b0 (.reg .l)
  | .res0IndHl => res .b0 .indHl
  | .res0A => res .b0 (.reg .a)
  | .res1B => res .b1 (.reg .b)
  | .res1C => res .b1 (.reg .c)
  | .res1D => res .b1 (.reg .d)
  | .res1E => res .b1 (.reg .e)
  | .res1H => res .b1 (.reg .h)
  | .res1L => res .b1 (.reg .l)
  | .res1IndHl => res .b1 .indHl
  | .res1A => res .b1 (.reg .a)
  | .res2B => res .b2 (.reg .b)
  | .res2C => res .b2 (.reg .c)
  | .res2D => res .b2 (.reg .d)
  | .res2E => res .b2 (.reg .e)
  | .res2H => res .b2 (.reg .h)
  | .res2L => res .b2 (.reg .l)
  | .res2IndHl => res .b2 .indHl
  | .res2A => res .b2 (.reg .a)
  | .res3B => res .b3 (.reg .b)
  | .res3C => res .b3 (.reg .c)
  | .res3D => res .b3 (.reg .d)
  | .res3E => res .b3 (.reg .e)
  | .res3H => res .b3 (.reg .h)
  | .res3L => res .b3 (.reg .l)
  | .res3IndHl => res .b3 .indHl
  | .res3A => res .b3 (.reg .a)
  | .res4B => res .b4 (.reg .b)
  | .res4C => res .b4 (.reg .c)
  | .res4D => res .b4 (.reg .d)
  | .res4E => res .b4 (.reg .e)
  | .res4H => res .b4 (.reg .h)
  | .res4L => res .b4 (.reg .l)
  | .res4IndHl => res .b4 .indHl
  | .res4A => res .b4 (.reg .a)
  | .res5B => res .b5 (.reg .b)
  | .res5C => res .b5 (.reg .c)
  | .res5D => res .b5 (.reg .d)
  | .res5E => res .b5 (.reg .e)
  | .res5H => res .b5 (.reg .h)
  | .res5L => res .b5 (.reg .l)
  | .res5IndHl => res .b5 .indHl
  | .res5A => res .b5 (.reg .a)
  | .res6B => res .b6 (.reg .b)
  | .res6C => res .b6 (.reg .c)
  | .res6D => res .b6 (.reg .d)
  | .res6E => res .b6 (.reg .e)
  | .res6H => res .b6 (.reg .h)
  | .res6L => res .b6 (.reg .l)
  | .res6IndHl => res .b6 .indHl
  | .res6A => res .b6 (.reg .a)
  | .res7B => res .b7 (.reg .b)
  | .res7C => res .b7 (.reg .c)
  | .res7D => res .b7 (.reg .d)
  | .res7E => res .b7 (.reg .e)
  | .res7H => res .b7 (.reg .h)
  | .res7L => res .b7 (.reg .l)
  | .res7IndHl => res .b7 .indHl
  | .res7A => res .b7 (.reg .a)
  | .set0B => set .b0 (.reg .b)
  | .set0C => set .b0 (.reg .c)
  | .set0D => set .b0 (.reg .d)
  | .set0E => set .b0 (.reg .e)
  | .set0H => set .b0 (.reg .h)
  | .set0L => set .b0 (.reg .l)
  | .set0IndHl => set .b0 .indHl
  | .set0A => set .b0 (.reg .a)
  | .set1B => set .b1 (.reg .b)
  | .set1C => set .b1 (.reg .c)
  | .set1D => set .b1 (.reg .d)
  | .set1E => set .b1 (.reg .e)
  | .set1H => set .b1 (.reg .h)
  | .set1L => set .b1 (.reg .l)
  | .set1IndHl => set .b1 .indHl
  | .set1A => set .b1 (.reg .a)
  | .set2B => set .b2 (.reg .b)
  | .set2C => set .b2 (.reg .c)
  | .set2D => set .b2 (.reg .d)
  | .set2E => set .b2 (.reg .e)
  | .set2H => set .b2 (.reg .h)
  | .set2L => set .b2 (.reg .l)
  | .set2IndHl => set .b2 .indHl
  | .set2A => set .b2 (.reg .a)
  | .set3B => set .b3 (.reg .b)
  | .set3C => set .b3 (.reg .c)
  | .set3D => set .b3 (.reg .d)
  | .set3E => set .b3 (.reg .e)
  | .set3H => set .b3 (.reg .h)
  | .set3L => set .b3 (.reg .l)
  | .set3IndHl => set .b3 .indHl
  | .set3A => set .b3 (.reg .a)
  | .set4B => set .b4 (.reg .b)
  | .set4C => set .b4 (.reg .c)
  | .set4D => set .b4 (.reg .d)
  | .set4E => set .b4 (.reg .e)
  | .set4H => set .b4 (.reg .h)
  | .set4L => set .b4 (.reg .l)
  | .set4IndHl => set .b4 .indHl
  | .set4A => set .b4 (.reg .a)
  | .set5B => set .b5 (.reg .b)
  | .set5C => set .b5 (.reg .c)
  | .set5D => set .b5 (.reg .d)
  | .set5E => set .b5 (.reg .e)
  | .set5H => set .b5 (.reg .h)
  | .set5L => set .b5 (.reg .l)
  | .set5IndHl => set .b5 .indHl
  | .set5A => set .b5 (.reg .a)
  | .set6B => set .b6 (.reg .b)
  | .set6C => set .b6 (.reg .c)
  | .set6D => set .b6 (.reg .d)
  | .set6E => set .b6 (.reg .e)
  | .set6H => set .b6 (.reg .h)
  | .set6L => set .b6 (.reg .l)
  | .set6IndHl => set .b6 .indHl
  | .set6A => set .b6 (.reg .a)
  | .set7B => set .b7 (.reg .b)
  | .set7C => set .b7 (.reg .c)
  | .set7D => set .b7 (.reg .d)
  | .set7E => set .b7 (.reg .e)
  | .set7H => set .b7 (.reg .h)
  | .set7L => set .b7 (.reg .l)
  | .set7IndHl => set .b7 .indHl
  | .set7A => set .b7 (.reg .a)

end Sys2Proof
end

