-- ==== Sys2Proof/Laws/Frame.lean ====
section
/-! SUPPORT. What a DMA copy leaves as it was, which addresses the cells of oam have, and what a read depends on. -/

namespace Sys2Proof.Machine

/-- A copy changes no cell outside the ones it writes. -/
theorem dmaLoop_read {base : Word} {n i : Nat} {s t : State} (h : dmaLoop base n i s = .ok t) {k : Nat}
    (hk : ¬ (0xFE00 + i ≤ k ∧ k < 0xFE00 + i + n)) : t.mem.read k = s.mem.read k := by
  induction n generalizing i s with
  | zero => simp only [dmaLoop, Except.ok.injEq] at h; rw [h]
  | succ n ih =>
    unfold dmaLoop at h
    obtain ⟨⟨x, u⟩, hu, h⟩ := Res.bind_eq_ok.1 h
    rw [ih h (by omega)]
    show (u.mem.write _ x).read k = _
    rw [Memory.read_write_other _ _ (by omega : k ≠ 0xFE00 + i), (busRead_eq_ok.1 hu).2, State.afterRead_eq]

/-- A copy changes `mem` and the draw counter only. -/
theorem dmaLoop_frame {base : Word} {n i : Nat} {s t : State} (h : dmaLoop base n i s = .ok t) :
    t = { s with mem := t.mem, draws := t.draws } := by
  induction n generalizing i s with
  | zero => simp only [dmaLoop, Except.ok.injEq] at h; rw [h]
  | succ n ih =>
    unfold dmaLoop at h
    obtain ⟨⟨x, u⟩, hu, h⟩ := Res.bind_eq_ok.1 h
    have := ih h
    rw [(busRead_eq_ok.1 hu).2, State.afterRead_eq] at this
    exact this

theorem cellOf_of_not_echo {cfg : Config} {a : Word} (h : regionOf cfg a ≠ .echo) : cellOf cfg a = a.toNat := by
  unfold cellOf
  rw [if_neg h]

/-- Only an address of oam, or the skipped 0xFE9F, has a cell of oam. -/
theorem region_of_oam_cell {cfg : Config} {b : Word} (h : 0xFE00 ≤ cellOf cfg b) (h' : cellOf cfg b ≤ 0xFE9F) :
    regionOf cfg b = .oam ∨ regionOf cfg b = .unmapped := by
  have he : regionOf cfg b ≠ .echo := by
    intro hr
    unfold cellOf echoKey at h h'
    rw [if_pos hr] at h h'
    have hb : ¬ 0xFE00 ≤ b.toNat := by
      intro hb
      rw [regionOf_high hb] at hr
      dsimp only at hr
      iterate 6 replace hr := (ite_else hr (by decide)).2
      exact absurd hr (by decide)
    split at h <;> omega
  rw [cellOf_of_not_echo he] at h h'
  rw [regionOf_high h]
  dsimp only
  generalize (if cfg.mapVariant = .contiguous then 1 else 0 : Nat) = ext
  by_cases hb : b.toNat ≤ 0xFE9E + ext
  · rw [if_pos hb]; exact .inl rfl
  · rw [if_neg hb, if_neg (by omega), if_neg (by omega), if_neg (by omega), if_neg (by omega), if_neg (by omega)]
    exact .inr rfl

/-- What a read of an address depends on. -/
theorem State.peek_congr {s t : State} {b : Word} (hc : t.config = s.config)
    (hl : b.toNat ≤ 0xFF → t.bootLatch = s.bootLatch) (hcart : t.cart = s.cart) (hbios : t.bios = s.bios)
    (hm : regionOf s.config b ≠ .unmapped → regionOf s.config b ≠ .ifReg → regionOf s.config b ≠ .ieReg →
      t.mem.read (cellOf s.config b) = s.mem.read (cellOf s.config b))
    (hif : regionOf s.config b = .ifReg → t.ifReg = s.ifReg)
    (hie : regionOf s.config b = .ieReg → t.ieReg = s.ieReg)
    (hio : regionOf s.config b = .io → t.ioPeek b = s.ioPeek b) : t.peek b = s.peek b := by
  unfold State.peek
  rw [hc]
  unfold cellOf at hm
  cases hr : regionOf s.config b <;> rw [hr] at hm hif hie hio <;> simp at hm hif hie hio ⊢ <;> try assumption
  · rw [hl (regionOf_overlay.1 hr), hcart, hbios]
  · rw [hcart]

end Sys2Proof.Machine
end

