-- ==== Sys2Proof/Laws/PerInstr.lean ====
section
/-! SUPPORT. One lemma per constructor: the instruction has a descriptor under the reference parameters (R136), and its
encoding is as long as its descriptor says (R130, R135; section 8 of 30_encoding.md, R148). -/

namespace Sys2Proof.Laws.Populated

/-- The instruction is populated under the reference parameters, its encoding is 1, 2 or 3 bytes long, and a step reads all
of those bytes but STOP's second. -/
def Statement (i : Instr) : Prop :=
  Instr.wellFormed .reference i = true ∧
    ((encode i).length = 1 ∨ (encode i).length = 2 ∨ (encode i).length = 3) ∧
    (i = .stop ∨ i.bytesRead = (encode i).length)

theorem nop : Statement (.nop) := ⟨rfl, .inl rfl, .inr rfl⟩
theorem ldBcN16 (n : Word) : Statement (.ldBcN16 n) := ⟨rfl, .inr (.inr rfl), .inr rfl⟩
theorem ldIndBcA : Statement (.ldIndBcA) := ⟨rfl, .inl rfl, .inr rfl⟩
theorem incBc : Statement (.incBc) := ⟨rfl, .inl rfl, .inr rfl⟩
theorem incB : Statement (.incB) := ⟨rfl, .inl rfl, .inr rfl⟩
theorem decB : Statement (.decB) := ⟨rfl, .inl rfl, .inr rfl⟩
theorem ldBN8 (n : Byte) : Statement (.ldBN8 n) := ⟨rfl, .inr (.inl rfl), .inr rfl⟩
theorem rlca : Statement (.rlca) := ⟨rfl, .inl rfl, .inr rfl⟩
theorem ldIndA16Sp (n : Word) : Statement (.ldIndA16Sp n) := ⟨rfl, .inr (.inr rfl), .inr rfl⟩
theorem addHlBc : Statement (.addHlBc) := ⟨rfl, .inl rfl, .inr rfl⟩
theorem ldAIndBc : Statement (.ldAIndBc) := ⟨rfl, .inl rfl, .inr rfl⟩
theorem decBc : Statement (.decBc) := ⟨rfl, .inl rfl, .inr rfl⟩
theorem incC : Statement (.incC) := ⟨rfl, .inl rfl, .inr rfl⟩
theorem decC : Statement (.decC) := ⟨rfl, .inl rfl, .inr rfl⟩
theorem ldCN8 (n : Byte) : Statement (.ldCN8 n) := ⟨rfl, .inr (.inl rfl), .inr rfl⟩
theorem rrca : Statement (.rrca) := ⟨rfl, .inl rfl, .inr rfl⟩
theorem stop : Statement (.stop) := ⟨rfl, .inr (.inl rfl), .inl rfl⟩
theorem ldDeN16 (n : Word) : Statement (.ldDeN16 n) := ⟨rfl, .inr (.inr rfl), .inr rfl⟩
theorem ldIndDeA : Statement (.ldIndDeA) := ⟨rfl, .inl rfl, .inr rfl⟩
theorem incDe : Statement (.incDe) := ⟨rfl, .inl rfl, .inr rfl⟩
theorem incD : Statement (.incD) := ⟨rfl, .inl rfl, .inr rfl⟩
theorem decD : Statement (.decD) := ⟨rfl, .inl rfl, .inr rfl⟩
theorem ldDN8 (n : Byte) : Statement (.ldDN8 n) := ⟨rfl, .inr (.inl rfl), .inr rfl⟩
theorem rla : Statement (.rla) := ⟨rfl, .inl rfl, .inr rfl⟩
theorem jrE8 (n : Byte) : Statement (.jrE8 n) := ⟨rfl, .inr (.inl rfl), .inr rfl⟩
theorem addHlDe : Statement (.addHlDe) := ⟨rfl, .inl rfl, .inr rfl⟩
theorem ldAIndDe : Statement (.ldAIndDe) := ⟨rfl, .inl rfl, .inr rfl⟩
theorem decDe : Statement (.decDe) := ⟨rfl, .inl rfl, .inr rfl⟩
theorem incE : Statement (.incE) := ⟨rfl, .inl rfl, .inr rfl⟩
theorem decE : Statement (.decE) := ⟨rfl, .inl rfl, .inr rfl⟩
theorem ldEN8 (n : Byte) : Statement (.ldEN8 n) := ⟨rfl, .inr (.inl rfl), .inr rfl⟩
theorem rra : Statement (.rra) := ⟨rfl, .inl rfl, .inr rfl⟩
theorem jrNzE8 (n : Byte) : Statement (.jrNzE8 n) := ⟨rfl, .inr (.inl rfl), .inr rfl⟩
theorem ldHlN16 (n : Word) : Statement (.ldHlN16 n) := ⟨rfl, .inr (.inr rfl), .inr rfl⟩
theorem ldIndHlIncA : Statement (.ldIndHlIncA) := ⟨rfl, .inl rfl, .inr rfl⟩
theorem incHl : Statement (.incHl) := ⟨rfl, .inl rfl, .inr rfl⟩
theorem incH : Statement (.incH) := ⟨rfl, .inl rfl, .inr rfl⟩
theorem decH : Statement (.decH) := ⟨rfl, .inl rfl, .inr rfl⟩
theorem ldHN8 (n : Byte) : Statement (.ldHN8 n) := ⟨rfl, .inr (.inl rfl), .inr rfl⟩
theorem daa : Statement (.daa) := ⟨rfl, .inl rfl, .inr rfl⟩
theorem jrZE8 (n : Byte) : Statement (.jrZE8 n) := ⟨rfl, .inr (.inl rfl), .inr rfl⟩
theorem addHlHl : Statement (.addHlHl) := ⟨rfl, .inl rfl, .inr rfl⟩
theorem ldAIndHlInc : Statement (.ldAIndHlInc) := ⟨rfl, .inl rfl, .inr rfl⟩
theorem decHl : Statement (.decHl) := ⟨rfl, .inl rfl, .inr rfl⟩
theorem incL : Statement (.incL) := ⟨rfl, .inl rfl, .inr rfl⟩
theorem decL : Statement (.decL) := ⟨rfl, .inl rfl, .inr rfl⟩
theorem ldLN8 (n : Byte) : Statement (.ldLN8 n) := ⟨rfl, .inr (.inl rfl), .inr rfl⟩
theorem cpl : Statement (.cpl) := ⟨rfl, .inl rfl, .inr rfl⟩
theorem jrNcE8 (n : Byte) : Statement (.jrNcE8 n) := ⟨rfl, .inr (.inl rfl), .inr rfl⟩
theorem ldSpN16 (n : Word) : Statement (.ldSpN16 n) := ⟨rfl, .inr (.inr rfl), .inr rfl⟩
theorem ldIndHlDecA : Statement (.ldIndHlDecA) := ⟨rfl, .inl rfl, .inr rfl⟩
theorem incSp : Statement (.incSp) := ⟨rfl, .inl rfl, .inr rfl⟩
theorem incIndHl : Statement (.incIndHl) := ⟨rfl, .inl rfl, .inr rfl⟩
theorem decIndHl : Statement (.decIndHl) := ⟨rfl, .inl rfl, .inr rfl⟩
theorem ldIndHlN8 (n : Byte) : Statement (.ldIndHlN8 n) := ⟨rfl, .inr (.inl rfl), .inr rfl⟩
theorem scf : Statement (.scf) := ⟨rfl, .inl rfl, .inr rfl⟩
theorem jrCE8 (n : Byte) : Statement (.jrCE8 n) := ⟨rfl, .inr (.inl rfl), .inr rfl⟩
theorem addHlSp : Statement (.addHlSp) := ⟨rfl, .inl rfl, .inr rfl⟩
theorem ldAIndHlDec : Statement (.ldAIndHlDec) := ⟨rfl, .inl rfl, .inr rfl⟩
theorem decSp : Statement (.decSp) := ⟨rfl, .inl rfl, .inr rfl⟩
theorem incA : Statement (.incA) := ⟨rfl, .inl rfl, .inr rfl⟩
theorem decA : Statement (.decA) := ⟨rfl, .inl rfl, .inr rfl⟩
theorem ldAN8 (n : Byte) : Statement (.ldAN8 n) := ⟨rfl, .inr (.inl rfl), .inr rfl⟩
theorem ccf : Statement (.ccf) := ⟨rfl, .inl rfl, .inr rfl⟩
theorem ldBB : Statement (.ldBB) := ⟨rfl, .inl rfl, .inr rfl⟩
theorem ldBC : Statement (.ldBC) := ⟨rfl, .inl rfl, .inr rfl⟩
theorem ldBD : Statement (.ldBD) := ⟨rfl, .inl rfl, .inr rfl⟩
theorem ldBE : Statement (.ldBE) := ⟨rfl, .inl rfl, .inr rfl⟩
theorem ldBH : Statement (.ldBH) := ⟨rfl, .inl rfl, .inr rfl⟩
theorem ldBL : Statement (.ldBL) := ⟨rfl, .inl rfl, .inr rfl⟩
theorem ldBIndHl : Statement (.ldBIndHl) := ⟨rfl, .inl rfl, .inr rfl⟩
theorem ldBA : Statement (.ldBA) := ⟨rfl, .inl rfl, .inr rfl⟩
theorem ldCB : Statement (.ldCB) := ⟨rfl, .inl rfl, .inr rfl⟩
theorem ldCC : Statement (.ldCC) := ⟨rfl, .inl rfl, .inr rfl⟩
theorem ldCD : Statement (.ldCD) := ⟨rfl, .inl rfl, .inr rfl⟩
theorem ldCE : Statement (.ldCE) := ⟨rfl, .inl rfl, .inr rfl⟩
theorem ldCH : Statement (.ldCH) := ⟨rfl, .inl rfl, .inr rfl⟩
theorem ldCL : Statement (.ldCL) := ⟨rfl, .inl rfl, .inr rfl⟩
theorem ldCIndHl : Statement (.ldCIndHl) := ⟨rfl, .inl rfl, .inr rfl⟩
theorem ldCA : Statement (.ldCA) := ⟨rfl, .inl rfl, .inr rfl⟩
theorem ldDB : Statement (.ldDB) := ⟨rfl, .inl rfl, .inr rfl⟩
theorem ldDC : Statement (.ldDC) := ⟨rfl, .inl rfl, .inr rfl⟩
theorem ldDD : Statement (.ldDD) := ⟨rfl, .inl rfl, .inr rfl⟩
theorem ldDE : Statement (.ldDE) := ⟨rfl, .inl rfl, .inr rfl⟩
theorem ldDH : Statement (.ldDH) := ⟨rfl, .inl rfl, .inr rfl⟩
theorem ldDL : Statement (.ldDL) := ⟨rfl, .inl rfl, .inr rfl⟩
theorem ldDIndHl : Statement (.ldDIndHl) := ⟨rfl, .inl rfl, .inr rfl⟩
theorem ldDA : Statement (.ldDA) := ⟨rfl, .inl rfl, .inr rfl⟩
theorem ldEB : Statement (.ldEB) := ⟨rfl, .inl rfl, .inr rfl⟩
theorem ldEC : Statement (.ldEC) := ⟨rfl, .inl rfl, .inr rfl⟩
theorem ldED : Statement (.ldED) := ⟨rfl, .inl rfl, .inr rfl⟩
theorem ldEE : Statement (.ldEE) := ⟨rfl, .inl rfl, .inr rfl⟩
theorem ldEH : Statement (.ldEH) := ⟨rfl, .inl rfl, .inr rfl⟩
theorem ldEL : Statement (.ldEL) := ⟨rfl, .inl rfl, .inr rfl⟩
theorem ldEIndHl : Statement (.ldEIndHl) := ⟨rfl, .inl rfl, .inr rfl⟩
theorem ldEA : Statement (.ldEA) := ⟨rfl, .inl rfl, .inr rfl⟩
theorem ldHB : Statement (.ldHB) := ⟨rfl, .inl rfl, .inr rfl⟩
theorem ldHC : Statement (.ldHC) := ⟨rfl, .inl rfl, .inr rfl⟩
theorem ldHD : Statement (.ldHD) := ⟨rfl, .inl rfl, .inr rfl⟩
theorem ldHE : Statement (.ldHE) := ⟨rfl, .inl rfl, .inr rfl⟩
theorem ldHH : Statement (.ldHH) := ⟨rfl, .inl rfl, .inr rfl⟩
theorem ldHL : Statement (.ldHL) := ⟨rfl, .inl rfl, .inr rfl⟩
theorem ldHIndHl : Statement (.ldHIndHl) := ⟨rfl, .inl rfl, .inr rfl⟩
theorem ldHA : Statement (.ldHA) := ⟨rfl, .inl rfl, .inr rfl⟩
theorem ldLB : Statement (.ldLB) := ⟨rfl, .inl rfl, .inr rfl⟩
theorem ldLC : Statement (.ldLC) := ⟨rfl, .inl rfl, .inr rfl⟩
theorem ldLD : Statement (.ldLD) := ⟨rfl, .inl rfl, .inr rfl⟩
theorem ldLE : Statement (.ldLE) := ⟨rfl, .inl rfl, .inr rfl⟩
theorem ldLH : Statement (.ldLH) := ⟨rfl, .inl rfl, .inr rfl⟩
theorem ldLL : Statement (.ldLL) := ⟨rfl, .inl rfl, .inr rfl⟩
theorem ldLIndHl : Statement (.ldLIndHl) := ⟨rfl, .inl rfl, .inr rfl⟩
theorem ldLA : Statement (.ldLA) := ⟨rfl, .inl rfl, .inr rfl⟩
theorem ldIndHlB : Statement (.ldIndHlB) := ⟨rfl, .inl rfl, .inr rfl⟩
theorem ldIndHlC : Statement (.ldIndHlC) := ⟨rfl, .inl rfl, .inr rfl⟩
theorem ldIndHlD : Statement (.ldIndHlD) := ⟨rfl, .inl rfl, .inr rfl⟩
theorem ldIndHlE : Statement (.ldIndHlE) := ⟨rfl, .inl rfl, .inr rfl⟩
theorem ldIndHlH : Statement (.ldIndHlH) := ⟨rfl, .inl rfl, .inr rfl⟩
theorem ldIndHlL : Statement (.ldIndHlL) := ⟨rfl, .inl rfl, .inr rfl⟩
theorem halt : Statement (.halt) := ⟨rfl, .inl rfl, .inr rfl⟩
theorem ldIndHlA : Statement (.ldIndHlA) := ⟨rfl, .inl rfl, .inr rfl⟩
theorem ldAB : Statement (.ldAB) := ⟨rfl, .inl rfl, .inr rfl⟩
theorem ldAC : Statement (.ldAC) := ⟨rfl, .inl rfl, .inr rfl⟩
theorem ldAD : Statement (.ldAD) := ⟨rfl, .inl rfl, .inr rfl⟩
theorem ldAE : Statement (.ldAE) := ⟨rfl, .inl rfl, .inr rfl⟩
theorem ldAH : Statement (.ldAH) := ⟨rfl, .inl rfl, .inr rfl⟩
theorem ldAL : Statement (.ldAL) := ⟨rfl, .inl rfl, .inr rfl⟩
theorem ldAIndHl : Statement (.ldAIndHl) := ⟨rfl, .inl rfl, .inr rfl⟩
theorem ldAA : Statement (.ldAA) := ⟨rfl, .inl rfl, .inr rfl⟩
theorem addAB : Statement (.addAB) := ⟨rfl, .inl rfl, .inr rfl⟩
theorem addAC : Statement (.addAC) := ⟨rfl, .inl rfl, .inr rfl⟩
theorem addAD : Statement (.addAD) := ⟨rfl, .inl rfl, .inr rfl⟩
theorem addAE : Statement (.addAE) := ⟨rfl, .inl rfl, .inr rfl⟩
theorem addAH : Statement (.addAH) := ⟨rfl, .inl rfl, .inr rfl⟩
theorem addAL : Statement (.addAL) := ⟨rfl, .inl rfl, .inr rfl⟩
theorem addAIndHl : Statement (.addAIndHl) := ⟨rfl, .inl rfl, .inr rfl⟩
theorem addAA : Statement (.addAA) := ⟨rfl, .inl rfl, .inr rfl⟩
theorem adcAB : Statement (.adcAB) := ⟨rfl, .inl rfl, .inr rfl⟩
theorem adcAC : Statement (.adcAC) := ⟨rfl, .inl rfl, .inr rfl⟩
theorem adcAD : Statement (.adcAD) := ⟨rfl, .inl rfl, .inr rfl⟩
theorem adcAE : Statement (.adcAE) := ⟨rfl, .inl rfl, .inr rfl⟩
theorem adcAH : Statement (.adcAH) := ⟨rfl, .inl rfl, .inr rfl⟩
theorem adcAL : Statement (.adcAL) := ⟨rfl, .inl rfl, .inr rfl⟩
theorem adcAIndHl : Statement (.adcAIndHl) := ⟨rfl, .inl rfl, .inr rfl⟩
theorem adcAA : Statement (.adcAA) := ⟨rfl, .inl rfl, .inr rfl⟩
theorem subAB : Statement (.subAB) := ⟨rfl, .inl rfl, .inr rfl⟩
theorem subAC : Statement (.subAC) := ⟨rfl, .inl rfl, .inr rfl⟩
theorem subAD : Statement (.subAD) := ⟨rfl, .inl rfl, .inr rfl⟩
theorem subAE : Statement (.subAE) := ⟨rfl, .inl rfl, .inr rfl⟩
theorem subAH : Statement (.subAH) := ⟨rfl, .inl rfl, .inr rfl⟩
theorem subAL : Statement (.subAL) := ⟨rfl, .inl rfl, .inr rfl⟩
theorem subAIndHl : Statement (.subAIndHl) := ⟨rfl, .inl rfl, .inr rfl⟩
theorem subAA : Statement (.subAA) := ⟨rfl, .inl rfl, .inr rfl⟩
theorem sbcAB : Statement (.sbcAB) := ⟨rfl, .inl rfl, .inr rfl⟩
theorem sbcAC : Statement (.sbcAC) := ⟨rfl, .inl rfl, .inr rfl⟩
theorem sbcAD : Statement (.sbcAD) := ⟨rfl, .inl rfl, .inr rfl⟩
theorem sbcAE : Statement (.sbcAE) := ⟨rfl, .inl rfl, .inr rfl⟩
theorem sbcAH : Statement (.sbcAH) := ⟨rfl, .inl rfl, .inr rfl⟩
theorem sbcAL : Statement (.sbcAL) := ⟨rfl, .inl rfl, .inr rfl⟩
theorem sbcAIndHl : Statement (.sbcAIndHl) := ⟨rfl, .inl rfl, .inr rfl⟩
theorem sbcAA : Statement (.sbcAA) := ⟨rfl, .inl rfl, .inr rfl⟩
theorem andAB : Statement (.andAB) := ⟨rfl, .inl rfl, .inr rfl⟩
theorem andAC : Statement (.andAC) := ⟨rfl, .inl rfl, .inr rfl⟩
theorem andAD : Statement (.andAD) := ⟨rfl, .inl rfl, .inr rfl⟩
theorem andAE : Statement (.andAE) := ⟨rfl, .inl rfl, .inr rfl⟩
theorem andAH : Statement (.andAH) := ⟨rfl, .inl rfl, .inr rfl⟩
theorem andAL : Statement (.andAL) := ⟨rfl, .inl rfl, .inr rfl⟩
theorem andAIndHl : Statement (.andAIndHl) := ⟨rfl, .inl rfl, .inr rfl⟩
theorem andAA : Statement (.andAA) := ⟨rfl, .inl rfl, .inr rfl⟩
theorem xorAB : Statement (.xorAB) := ⟨rfl, .inl rfl, .inr rfl⟩
theorem xorAC : Statement (.xorAC) := ⟨rfl, .inl rfl, .inr rfl⟩
theorem xorAD : Statement (.xorAD) := ⟨rfl, .inl rfl, .inr rfl⟩
theorem xorAE : Statement (.xorAE) := ⟨rfl, .inl rfl, .inr rfl⟩
theorem xorAH : Statement (.xorAH) := ⟨rfl, .inl rfl, .inr rfl⟩
theorem xorAL : Statement (.xorAL) := ⟨rfl, .inl rfl, .inr rfl⟩
theorem xorAIndHl : Statement (.xorAIndHl) := ⟨rfl, .inl rfl, .inr rfl⟩
theorem xorAA : Statement (.xorAA) := ⟨rfl, .inl rfl, .inr rfl⟩
theorem orAB : Statement (.orAB) := ⟨rfl, .inl rfl, .inr rfl⟩
theorem orAC : Statement (.orAC) := ⟨rfl, .inl rfl, .inr rfl⟩
theorem orAD : Statement (.orAD) := ⟨rfl, .inl rfl, .inr rfl⟩
theorem orAE : Statement (.orAE) := ⟨rfl, .inl rfl, .inr rfl⟩
theorem orAH : Statement (.orAH) := ⟨rfl, .inl rfl, .inr rfl⟩
theorem orAL : Statement (.orAL) := ⟨rfl, .inl rfl, .inr rfl⟩
theorem orAIndHl : Statement (.orAIndHl) := ⟨rfl, .inl rfl, .inr rfl⟩
theorem orAA : Statement (.orAA) := ⟨rfl, .inl rfl, .inr rfl⟩
theorem cpAB : Statement (.cpAB) := ⟨rfl, .inl rfl, .inr rfl⟩
theorem cpAC : Statement (.cpAC) := ⟨rfl, .inl rfl, .inr rfl⟩
theorem cpAD : Statement (.cpAD) := ⟨rfl, .inl rfl, .inr rfl⟩
theorem cpAE : Statement (.cpAE) := ⟨rfl, .inl rfl, .inr rfl⟩
theorem cpAH : Statement (.cpAH) := ⟨rfl, .inl rfl, .inr rfl⟩
theorem cpAL : Statement (.cpAL) := ⟨rfl, .inl rfl, .inr rfl⟩
theorem cpAIndHl : Statement (.cpAIndHl) := ⟨rfl, .inl rfl, .inr rfl⟩
theorem cpAA : Statement (.cpAA) := ⟨rfl, .inl rfl, .inr rfl⟩
theorem retNz : Statement (.retNz) := ⟨rfl, .inl rfl, .inr rfl⟩
theorem popBc : Statement (.popBc) := ⟨rfl, .inl rfl, .inr rfl⟩
theorem jpNzA16 (n : Word) : Statement (.jpNzA16 n) := ⟨rfl, .inr (.inr rfl), .inr rfl⟩
theorem jpA16 (n : Word) : Statement (.jpA16 n) := ⟨rfl, .inr (.inr rfl), .inr rfl⟩
theorem callNzA16 (n : Word) : Statement (.callNzA16 n) := ⟨rfl, .inr (.inr rfl), .inr rfl⟩
theorem pushBc : Statement (.pushBc) := ⟨rfl, .inl rfl, .inr rfl⟩
theorem addAN8 (n : Byte) : Statement (.addAN8 n) := ⟨rfl, .inr (.inl rfl), .inr rfl⟩
theorem rst00 : Statement (.rst00) := ⟨rfl, .inl rfl, .inr rfl⟩
theorem retZ : Statement (.retZ) := ⟨rfl, .inl rfl, .inr rfl⟩
theorem ret : Statement (.ret) := ⟨rfl, .inl rfl, .inr rfl⟩
theorem jpZA16 (n : Word) : Statement (.jpZA16 n) := ⟨rfl, .inr (.inr rfl), .inr rfl⟩
theorem callZA16 (n : Word) : Statement (.callZA16 n) := ⟨rfl, .inr (.inr rfl), .inr rfl⟩
theorem callA16 (n : Word) : Statement (.callA16 n) := ⟨rfl, .inr (.inr rfl), .inr rfl⟩
theorem adcAN8 (n : Byte) : Statement (.adcAN8 n) := ⟨rfl, .inr (.inl rfl), .inr rfl⟩
theorem rst08 : Statement (.rst08) := ⟨rfl, .inl rfl, .inr rfl⟩
theorem retNc : Statement (.retNc) := ⟨rfl, .inl rfl, .inr rfl⟩
theorem popDe : Statement (.popDe) := ⟨rfl, .inl rfl, .inr rfl⟩
theorem jpNcA16 (n : Word) : Statement (.jpNcA16 n) := ⟨rfl, .inr (.inr rfl), .inr rfl⟩
theorem callNcA16 (n : Word) : Statement (.callNcA16 n) := ⟨rfl, .inr (.inr rfl), .inr rfl⟩
theorem pushDe : Statement (.pushDe) := ⟨rfl, .inl rfl, .inr rfl⟩
theorem subAN8 (n : Byte) : Statement (.subAN8 n) := ⟨rfl, .inr (.inl rfl), .inr rfl⟩
theorem rst10 : Statement (.rst10) := ⟨rfl, .inl rfl, .inr rfl⟩
theorem retC : Statement (.retC) := ⟨rfl, .inl rfl, .inr rfl⟩
theorem reti : Statement (.reti) := ⟨rfl, .inl rfl, .inr rfl⟩
theorem jpCA16 (n : Word) : Statement (.jpCA16 n) := ⟨rfl, .inr (.inr rfl), .inr rfl⟩
theorem callCA16 (n : Word) : Statement (.callCA16 n) := ⟨rfl, .inr (.inr rfl), .inr rfl⟩
theorem sbcAN8 (n : Byte) : Statement (.sbcAN8 n) := ⟨rfl, .inr (.inl rfl), .inr rfl⟩
theorem rst18 : Statement (.rst18) := ⟨rfl, .inl rfl, .inr rfl⟩
theorem ldhIndA8A (n : Byte) : Statement (.ldhIndA8A n) := ⟨rfl, .inr (.inl rfl), .inr rfl⟩
theorem popHl : Statement (.popHl) := ⟨rfl, .inl rfl, .inr rfl⟩
theorem ldIndCA : Statement (.ldIndCA) := ⟨rfl, .inl rfl, .inr rfl⟩
theorem pushHl : Statement (.pushHl) := ⟨rfl, .inl rfl, .inr rfl⟩
theorem andAN8 (n : Byte) : Statement (.andAN8 n) := ⟨rfl, .inr (.inl rfl), .inr rfl⟩
theorem rst20 : Statement (.rst20) := ⟨rfl, .inl rfl, .inr rfl⟩
theorem addSpE8 (n : Byte) : Statement (.addSpE8 n) := ⟨rfl, .inr (.inl rfl), .inr rfl⟩
theorem jpHl : Statement (.jpHl) := ⟨rfl, .inl rfl, .inr rfl⟩
theorem ldIndA16A (n : Word) : Statement (.ldIndA16A n) := ⟨rfl, .inr (.inr rfl), .inr rfl⟩
theorem xorAN8 (n : Byte) : Statement (.xorAN8 n) := ⟨rfl, .inr (.inl rfl), .inr rfl⟩
theorem rst28 : Statement (.rst28) := ⟨rfl, .inl rfl, .inr rfl⟩
theorem ldhAIndA8 (n : Byte) : Statement (.ldhAIndA8 n) := ⟨rfl, .inr (.inl rfl), .inr rfl⟩
theorem popAf : Statement (.popAf) := ⟨rfl, .inl rfl, .inr rfl⟩
theorem ldAIndC : Statement (.ldAIndC) := ⟨rfl, .inl rfl, .inr rfl⟩
theorem di : Statement (.di) := ⟨rfl, .inl rfl, .inr rfl⟩
theorem pushAf : Statement (.pushAf) := ⟨rfl, .inl rfl, .inr rfl⟩
theorem orAN8 (n : Byte) : Statement (.orAN8 n) := ⟨rfl, .inr (.inl rfl), .inr rfl⟩
theorem rst30 : Statement (.rst30) := ⟨rfl, .inl rfl, .inr rfl⟩
theorem ldHlSpE8 (n : Byte) : Statement (.ldHlSpE8 n) := ⟨rfl, .inr (.inl rfl), .inr rfl⟩
theorem ldSpHl : Statement (.ldSpHl) := ⟨rfl, .inl rfl, .inr rfl⟩
theorem ldAIndA16 (n : Word) : Statement (.ldAIndA16 n) := ⟨rfl, .inr (.inr rfl), .inr rfl⟩
theorem ei : Statement (.ei) := ⟨rfl, .inl rfl, .inr rfl⟩
theorem cpAN8 (n : Byte) : Statement (.cpAN8 n) := ⟨rfl, .inr (.inl rfl), .inr rfl⟩
theorem rst38 : Statement (.rst38) := ⟨rfl, .inl rfl, .inr rfl⟩
theorem rlcB : Statement (.rlcB) := ⟨rfl, .inr (.inl rfl), .inr rfl⟩
theorem rlcC : Statement (.rlcC) := ⟨rfl, .inr (.inl rfl), .inr rfl⟩
theorem rlcD : Statement (.rlcD) := ⟨rfl, .inr (.inl rfl), .inr rfl⟩
theorem rlcE : Statement (.rlcE) := ⟨rfl, .inr (.inl rfl), .inr rfl⟩
theorem rlcH : Statement (.rlcH) := ⟨rfl, .inr (.inl rfl), .inr rfl⟩
theorem rlcL : Statement (.rlcL) := ⟨rfl, .inr (.inl rfl), .inr rfl⟩
theorem rlcIndHl : Statement (.rlcIndHl) := ⟨rfl, .inr (.inl rfl), .inr rfl⟩
theorem rlcA : Statement (.rlcA) := ⟨rfl, .inr (.inl rfl), .inr rfl⟩
theorem rrcB : Statement (.rrcB) := ⟨rfl, .inr (.inl rfl), .inr rfl⟩
theorem rrcC : Statement (.rrcC) := ⟨rfl, .inr (.inl rfl), .inr rfl⟩
theorem rrcD : Statement (.rrcD) := ⟨rfl, .inr (.inl rfl), .inr rfl⟩
theorem rrcE : Statement (.rrcE) := ⟨rfl, .inr (.inl rfl), .inr rfl⟩
theorem rrcH : Statement (.rrcH) := ⟨rfl, .inr (.inl rfl), .inr rfl⟩
theorem rrcL : Statement (.rrcL) := ⟨rfl, .inr (.inl rfl), .inr rfl⟩
theorem rrcIndHl : Statement (.rrcIndHl) := ⟨rfl, .inr (.inl rfl), .inr rfl⟩
theorem rrcA : Statement (.rrcA) := ⟨rfl, .inr (.inl rfl), .inr rfl⟩
theorem rlB : Statement (.rlB) := ⟨rfl, .inr (.inl rfl), .inr rfl⟩
theorem rlC : Statement (.rlC) := ⟨rfl, .inr (.inl rfl), .inr rfl⟩
theorem rlD : Statement (.rlD) := ⟨rfl, .inr (.inl rfl), .inr rfl⟩
theorem rlE : Statement (.rlE) := ⟨rfl, .inr (.inl rfl), .inr rfl⟩
theorem rlH : Statement (.rlH) := ⟨rfl, .inr (.inl rfl), .inr rfl⟩
theorem rlL : Statement (.rlL) := ⟨rfl, .inr (.inl rfl), .inr rfl⟩
theorem rlIndHl : Statement (.rlIndHl) := ⟨rfl, .inr (.inl rfl), .inr rfl⟩
theorem rlA : Statement (.rlA) := ⟨rfl, .inr (.inl rfl), .inr rfl⟩
theorem rrB : Statement (.rrB) := ⟨rfl, .inr (.inl rfl), .inr rfl⟩
theorem rrC : Statement (.rrC) := ⟨rfl, .inr (.inl rfl), .inr rfl⟩
theorem rrD : Statement (.rrD) := ⟨rfl, .inr (.inl rfl), .inr rfl⟩
theorem rrE : Statement (.rrE) := ⟨rfl, .inr (.inl rfl), .inr rfl⟩
theorem rrH : Statement (.rrH) := ⟨rfl, .inr (.inl rfl), .inr rfl⟩
theorem rrL : Statement (.rrL) := ⟨rfl, .inr (.inl rfl), .inr rfl⟩
theorem rrIndHl : Statement (.rrIndHl) := ⟨rfl, .inr (.inl rfl), .inr rfl⟩
theorem rrA : Statement (.rrA) := ⟨rfl, .inr (.inl rfl), .inr rfl⟩
theorem slaB : Statement (.slaB) := ⟨rfl, .inr (.inl rfl), .inr rfl⟩
theorem slaC : Statement (.slaC) := ⟨rfl, .inr (.inl rfl), .inr rfl⟩
theorem slaD : Statement (.slaD) := ⟨rfl, .inr (.inl rfl), .inr rfl⟩
theorem slaE : Statement (.slaE) := ⟨rfl, .inr (.inl rfl), .inr rfl⟩
theorem slaH : Statement (.slaH) := ⟨rfl, .inr (.inl rfl), .inr rfl⟩
theorem slaL : Statement (.slaL) := ⟨rfl, .inr (.inl rfl), .inr rfl⟩
theorem slaIndHl : Statement (.slaIndHl) := ⟨rfl, .inr (.inl rfl), .inr rfl⟩
theorem slaA : Statement (.slaA) := ⟨rfl, .inr (.inl rfl), .inr rfl⟩
theorem sraB : Statement (.sraB) := ⟨rfl, .inr (.inl rfl), .inr rfl⟩
theorem sraC : Statement (.sraC) := ⟨rfl, .inr (.inl rfl), .inr rfl⟩
theorem sraD : Statement (.sraD) := ⟨rfl, .inr (.inl rfl), .inr rfl⟩
theorem sraE : Statement (.sraE) := ⟨rfl, .inr (.inl rfl), .inr rfl⟩
theorem sraH : Statement (.sraH) := ⟨rfl, .inr (.inl rfl), .inr rfl⟩
theorem sraL : Statement (.sraL) := ⟨rfl, .inr (.inl rfl), .inr rfl⟩
theorem sraIndHl : Statement (.sraIndHl) := ⟨rfl, .inr (.inl rfl), .inr rfl⟩
theorem sraA : Statement (.sraA) := ⟨rfl, .inr (.inl rfl), .inr rfl⟩
theorem swapB : Statement (.swapB) := ⟨rfl, .inr (.inl rfl), .inr rfl⟩
theorem swapC : Statement (.swapC) := ⟨rfl, .inr (.inl rfl), .inr rfl⟩
theorem swapD : Statement (.swapD) := ⟨rfl, .inr (.inl rfl), .inr rfl⟩
theorem swapE : Statement (.swapE) := ⟨rfl, .inr (.inl rfl), .inr rfl⟩
theorem swapH : Statement (.swapH) := ⟨rfl, .inr (.inl rfl), .inr rfl⟩
theorem swapL : Statement (.swapL) := ⟨rfl, .inr (.inl rfl), .inr rfl⟩
theorem swapIndHl : Statement (.swapIndHl) := ⟨rfl, .inr (.inl rfl), .inr rfl⟩
theorem swapA : Statement (.swapA) := ⟨rfl, .inr (.inl rfl), .inr rfl⟩
theorem srlB : Statement (.srlB) := ⟨rfl, .inr (.inl rfl), .inr rfl⟩
theorem srlC : Statement (.srlC) := ⟨rfl, .inr (.inl rfl), .inr rfl⟩
theorem srlD : Statement (.srlD) := ⟨rfl, .inr (.inl rfl), .inr rfl⟩
theorem srlE : Statement (.srlE) := ⟨rfl, .inr (.inl rfl), .inr rfl⟩
theorem srlH : Statement (.srlH) := ⟨rfl, .inr (.inl rfl), .inr rfl⟩
theorem srlL : Statement (.srlL) := ⟨rfl, .inr (.inl rfl), .inr rfl⟩
theorem srlIndHl : Statement (.srlIndHl) := ⟨rfl, .inr (.inl rfl), .inr rfl⟩
theorem srlA : Statement (.srlA) := ⟨rfl, .inr (.inl rfl), .inr rfl⟩
theorem bit0B : Statement (.bit0B) := ⟨rfl, .inr (.inl rfl), .inr rfl⟩
theorem bit0C : Statement (.bit0C) := ⟨rfl, .inr (.inl rfl), .inr rfl⟩
theorem bit0D : Statement (.bit0D) := ⟨rfl, .inr (.inl rfl), .inr rfl⟩
theorem bit0E : Statement (.bit0E) := ⟨rfl, .inr (.inl rfl), .inr rfl⟩
theorem bit0H : Statement (.bit0H) := ⟨rfl, .inr (.inl rfl), .inr rfl⟩
theorem bit0L : Statement (.bit0L) := ⟨rfl, .inr (.inl rfl), .inr rfl⟩
theorem bit0IndHl : Statement (.bit0IndHl) := ⟨rfl, .inr (.inl rfl), .inr rfl⟩
theorem bit0A : Statement (.bit0A) := ⟨rfl, .inr (.inl rfl), .inr rfl⟩
theorem bit1B : Statement (.bit1B) := ⟨rfl, .inr (.inl rfl), .inr rfl⟩
theorem bit1C : Statement (.bit1C) := ⟨rfl, .inr (.inl rfl), .inr rfl⟩
theorem bit1D : Statement (.bit1D) := ⟨rfl, .inr (.inl rfl), .inr rfl⟩
theorem bit1E : Statement (.bit1E) := ⟨rfl, .inr (.inl rfl), .inr rfl⟩
theorem bit1H : Statement (.bit1H) := ⟨rfl, .inr (.inl rfl), .inr rfl⟩
theorem bit1L : Statement (.bit1L) := ⟨rfl, .inr (.inl rfl), .inr rfl⟩
theorem bit1IndHl : Statement (.bit1IndHl) := ⟨rfl, .inr (.inl rfl), .inr rfl⟩
theorem bit1A : Statement (.bit1A) := ⟨rfl, .inr (.inl rfl), .inr rfl⟩
theorem bit2B : Statement (.bit2B) := ⟨rfl, .inr (.inl rfl), .inr rfl⟩
theorem bit2C : Statement (.bit2C) := ⟨rfl, .inr (.inl rfl), .inr rfl⟩
theorem bit2D : Statement (.bit2D) := ⟨rfl, .inr (.inl rfl), .inr rfl⟩
theorem bit2E : Statement (.bit2E) := ⟨rfl, .inr (.inl rfl), .inr rfl⟩
theorem bit2H : Statement (.bit2H) := ⟨rfl, .inr (.inl rfl), .inr rfl⟩
theorem bit2L : Statement (.bit2L) := ⟨rfl, .inr (.inl rfl), .inr rfl⟩
theorem bit2IndHl : Statement (.bit2IndHl) := ⟨rfl, .inr (.inl rfl), .inr rfl⟩
theorem bit2A : Statement (.bit2A) := ⟨rfl, .inr (.inl rfl), .inr rfl⟩
theorem bit3B : Statement (.bit3B) := ⟨rfl, .inr (.inl rfl), .inr rfl⟩
theorem bit3C : Statement (.bit3C) := ⟨rfl, .inr (.inl rfl), .inr rfl⟩
theorem bit3D : Statement (.bit3D) := ⟨rfl, .inr (.inl rfl), .inr rfl⟩
theorem bit3E : Statement (.bit3E) := ⟨rfl, .inr (.inl rfl), .inr rfl⟩
theorem bit3H : Statement (.bit3H) := ⟨rfl, .inr (.inl rfl), .inr rfl⟩
theorem bit3L : Statement (.bit3L) := ⟨rfl, .inr (.inl rfl), .inr rfl⟩
theorem bit3IndHl : Statement (.bit3IndHl) := ⟨rfl, .inr (.inl rfl), .inr rfl⟩
theorem bit3A : Statement (.bit3A) := ⟨rfl, .inr (.inl rfl), .inr rfl⟩
theorem bit4B : Statement (.bit4B) := ⟨rfl, .inr (.inl rfl), .inr rfl⟩
theorem bit4C : Statement (.bit4C) := ⟨rfl, .inr (.inl rfl), .inr rfl⟩
theorem bit4D : Statement (.bit4D) := ⟨rfl, .inr (.inl rfl), .inr rfl⟩
theorem bit4E : Statement (.bit4E) := ⟨rfl, .inr (.inl rfl), .inr rfl⟩
theorem bit4H : Statement (.bit4H) := ⟨rfl, .inr (.inl rfl), .inr rfl⟩
theorem bit4L : Statement (.bit4L) := ⟨rfl, .inr (.inl rfl), .inr rfl⟩
theorem bit4IndHl : Statement (.bit4IndHl) := ⟨rfl, .inr (.inl rfl), .inr rfl⟩
theorem bit4A : Statement (.bit4A) := ⟨rfl, .inr (.inl rfl), .inr rfl⟩
theorem bit5B : Statement (.bit5B) := ⟨rfl, .inr (.inl rfl), .inr rfl⟩
theorem bit5C : Statement (.bit5C) := ⟨rfl, .inr (.inl rfl), .inr rfl⟩
theorem bit5D : Statement (.bit5D) := ⟨rfl, .inr (.inl rfl), .inr rfl⟩
theorem bit5E : Statement (.bit5E) := ⟨rfl, .inr (.inl rfl), .inr rfl⟩
theorem bit5H : Statement (.bit5H) := ⟨rfl, .inr (.inl rfl), .inr rfl⟩
theorem bit5L : Statement (.bit5L) := ⟨rfl, .inr (.inl rfl), .inr rfl⟩
theorem bit5IndHl : Statement (.bit5IndHl) := ⟨rfl, .inr (.inl rfl), .inr rfl⟩
theorem bit5A : Statement (.bit5A) := ⟨rfl, .inr (.inl rfl), .inr rfl⟩
theorem bit6B : Statement (.bit6B) := ⟨rfl, .inr (.inl rfl), .inr rfl⟩
theorem bit6C : Statement (.bit6C) := ⟨rfl, .inr (.inl rfl), .inr rfl⟩
theorem bit6D : Statement (.bit6D) := ⟨rfl, .inr (.inl rfl), .inr rfl⟩
theorem bit6E : Statement (.bit6E) := ⟨rfl, .inr (.inl rfl), .inr rfl⟩
theorem bit6H : Statement (.bit6H) := ⟨rfl, .inr (.inl rfl), .inr rfl⟩
theorem bit6L : Statement (.bit6L) := ⟨rfl, .inr (.inl rfl), .inr rfl⟩
theorem bit6IndHl : Statement (.bit6IndHl) := ⟨rfl, .inr (.inl rfl), .inr rfl⟩
theorem bit6A : Statement (.bit6A) := ⟨rfl, .inr (.inl rfl), .inr rfl⟩
theorem bit7B : Statement (.bit7B) := ⟨rfl, .inr (.inl rfl), .inr rfl⟩
theorem bit7C : Statement (.bit7C) := ⟨rfl, .inr (.inl rfl), .inr rfl⟩
theorem bit7D : Statement (.bit7D) := ⟨rfl, .inr (.inl rfl), .inr rfl⟩
theorem bit7E : Statement (.bit7E) := ⟨rfl, .inr (.inl rfl), .inr rfl⟩
theorem bit7H : Statement (.bit7H) := ⟨rfl, .inr (.inl rfl), .inr rfl⟩
theorem bit7L : Statement (.bit7L) := ⟨rfl, .inr (.inl rfl), .inr rfl⟩
theorem bit7IndHl : Statement (.bit7IndHl) := ⟨rfl, .inr (.inl rfl), .inr rfl⟩
theorem bit7A : Statement (.bit7A) := ⟨rfl, .inr (.inl rfl), .inr rfl⟩
theorem res0B : Statement (.res0B) := ⟨rfl, .inr (.inl rfl), .inr rfl⟩
theorem res0C : Statement (.res0C) := ⟨rfl, .inr (.inl rfl), .inr rfl⟩
theorem res0D : Statement (.res0D) := ⟨rfl, .inr (.inl rfl), .inr rfl⟩
theorem res0E : Statement (.res0E) := ⟨rfl, .inr (.inl rfl), .inr rfl⟩
theorem res0H : Statement (.res0H) := ⟨rfl, .inr (.inl rfl), .inr rfl⟩
theorem res0L : Statement (.res0L) := ⟨rfl, .inr (.inl rfl), .inr rfl⟩
theorem res0IndHl : Statement (.res0IndHl) := ⟨rfl, .inr (.inl rfl), .inr rfl⟩
theorem res0A : Statement (.res0A) := ⟨rfl, .inr (.inl rfl), .inr rfl⟩
theorem res1B : Statement (.res1B) := ⟨rfl, .inr (.inl rfl), .inr rfl⟩
theorem res1C : Statement (.res1C) := ⟨rfl, .inr (.inl rfl), .inr rfl⟩
theorem res1D : Statement (.res1D) := ⟨rfl, .inr (.inl rfl), .inr rfl⟩
theorem res1E : Statement (.res1E) := ⟨rfl, .inr (.inl rfl), .inr rfl⟩
theorem res1H : Statement (.res1H) := ⟨rfl, .inr (.inl rfl), .inr rfl⟩
theorem res1L : Statement (.res1L) := ⟨rfl, .inr (.inl rfl), .inr rfl⟩
theorem res1IndHl : Statement (.res1IndHl) := ⟨rfl, .inr (.inl rfl), .inr rfl⟩
theorem res1A : Statement (.res1A) := ⟨rfl, .inr (.inl rfl), .inr rfl⟩
theorem res2B : Statement (.res2B) := ⟨rfl, .inr (.inl rfl), .inr rfl⟩
theorem res2C : Statement (.res2C) := ⟨rfl, .inr (.inl rfl), .inr rfl⟩
theorem res2D : Statement (.res2D) := ⟨rfl, .inr (.inl rfl), .inr rfl⟩
theorem res2E : Statement (.res2E) := ⟨rfl, .inr (.inl rfl), .inr rfl⟩
theorem res2H : Statement (.res2H) := ⟨rfl, .inr (.inl rfl), .inr rfl⟩
theorem res2L : Statement (.res2L) := ⟨rfl, .inr (.inl rfl), .inr rfl⟩
theorem res2IndHl : Statement (.res2IndHl) := ⟨rfl, .inr (.inl rfl), .inr rfl⟩
theorem res2A : Statement (.res2A) := ⟨rfl, .inr (.inl rfl), .inr rfl⟩
theorem res3B : Statement (.res3B) := ⟨rfl, .inr (.inl rfl), .inr rfl⟩
theorem res3C : Statement (.res3C) := ⟨rfl, .inr (.inl rfl), .inr rfl⟩
theorem res3D : Statement (.res3D) := ⟨rfl, .inr (.inl rfl), .inr rfl⟩
theorem res3E : Statement (.res3E) := ⟨rfl, .inr (.inl rfl), .inr rfl⟩
theorem res3H : Statement (.res3H) := ⟨rfl, .inr (.inl rfl), .inr rfl⟩
theorem res3L : Statement (.res3L) := ⟨rfl, .inr (.inl rfl), .inr rfl⟩
theorem res3IndHl : Statement (.res3IndHl) := ⟨rfl, .inr (.inl rfl), .inr rfl⟩
theorem res3A : Statement (.res3A) := ⟨rfl, .inr (.inl rfl), .inr rfl⟩
theorem res4B : Statement (.res4B) := ⟨rfl, .inr (.inl rfl), .inr rfl⟩
theorem res4C : Statement (.res4C) := ⟨rfl, .inr (.inl rfl), .inr rfl⟩
theorem res4D : Statement (.res4D) := ⟨rfl, .inr (.inl rfl), .inr rfl⟩
theorem res4E : Statement (.res4E) := ⟨rfl, .inr (.inl rfl), .inr rfl⟩
theorem res4H : Statement (.res4H) := ⟨rfl, .inr (.inl rfl), .inr rfl⟩
theorem res4L : Statement (.res4L) := ⟨rfl, .inr (.inl rfl), .inr rfl⟩
theorem res4IndHl : Statement (.res4IndHl) := ⟨rfl, .inr (.inl rfl), .inr rfl⟩
theorem res4A : Statement (.res4A) := ⟨rfl, .inr (.inl rfl), .inr rfl⟩
theorem res5B : Statement (.res5B) := ⟨rfl, .inr (.inl rfl), .inr rfl⟩
theorem res5C : Statement (.res5C) := ⟨rfl, .inr (.inl rfl), .inr rfl⟩
theorem res5D : Statement (.res5D) := ⟨rfl, .inr (.inl rfl), .inr rfl⟩
theorem res5E : Statement (.res5E) := ⟨rfl, .inr (.inl rfl), .inr rfl⟩
theorem res5H : Statement (.res5H) := ⟨rfl, .inr (.inl rfl), .inr rfl⟩
theorem res5L : Statement (.res5L) := ⟨rfl, .inr (.inl rfl), .inr rfl⟩
theorem res5IndHl : Statement (.res5IndHl) := ⟨rfl, .inr (.inl rfl), .inr rfl⟩
theorem res5A : Statement (.res5A) := ⟨rfl, .inr (.inl rfl), .inr rfl⟩
theorem res6B : Statement (.res6B) := ⟨rfl, .inr (.inl rfl), .inr rfl⟩
theorem res6C : Statement (.res6C) := ⟨rfl, .inr (.inl rfl), .inr rfl⟩
theorem res6D : Statement (.res6D) := ⟨rfl, .inr (.inl rfl), .inr rfl⟩
theorem res6E : Statement (.res6E) := ⟨rfl, .inr (.inl rfl), .inr rfl⟩
theorem res6H : Statement (.res6H) := ⟨rfl, .inr (.inl rfl), .inr rfl⟩
theorem res6L : Statement (.res6L) := ⟨rfl, .inr (.inl rfl), .inr rfl⟩
theorem res6IndHl : Statement (.res6IndHl) := ⟨rfl, .inr (.inl rfl), .inr rfl⟩
theorem res6A : Statement (.res6A) := ⟨rfl, .inr (.inl rfl), .inr rfl⟩
theorem res7B : Statement (.res7B) := ⟨rfl, .inr (.inl rfl), .inr rfl⟩
theorem res7C : Statement (.res7C) := ⟨rfl, .inr (.inl rfl), .inr rfl⟩
theorem res7D : Statement (.res7D) := ⟨rfl, .inr (.inl rfl), .inr rfl⟩
theorem res7E : Statement (.res7E) := ⟨rfl, .inr (.inl rfl), .inr rfl⟩
theorem res7H : Statement (.res7H) := ⟨rfl, .inr (.inl rfl), .inr rfl⟩
theorem res7L : Statement (.res7L) := ⟨rfl, .inr (.inl rfl), .inr rfl⟩
theorem res7IndHl : Statement (.res7IndHl) := ⟨rfl, .inr (.inl rfl), .inr rfl⟩
theorem res7A : Statement (.res7A) := ⟨rfl, .inr (.inl rfl), .inr rfl⟩
theorem set0B : Statement (.set0B) := ⟨rfl, .inr (.inl rfl), .inr rfl⟩
theorem set0C : Statement (.set0C) := ⟨rfl, .inr (.inl rfl), .inr rfl⟩
theorem set0D : Statement (.set0D) := ⟨rfl, .inr (.inl rfl), .inr rfl⟩
theorem set0E : Statement (.set0E) := ⟨rfl, .inr (.inl rfl), .inr rfl⟩
theorem set0H : Statement (.set0H) := ⟨rfl, .inr (.inl rfl), .inr rfl⟩
theorem set0L : Statement (.set0L) := ⟨rfl, .inr (.inl rfl), .inr rfl⟩
theorem set0IndHl : Statement (.set0IndHl) := ⟨rfl, .inr (.inl rfl), .inr rfl⟩
theorem set0A : Statement (.set0A) := ⟨rfl, .inr (.inl rfl), .inr rfl⟩
theorem set1B : Statement (.set1B) := ⟨rfl, .inr (.inl rfl), .inr rfl⟩
theorem set1C : Statement (.set1C) := ⟨rfl, .inr (.inl rfl), .inr rfl⟩
theorem set1D : Statement (.set1D) := ⟨rfl, .inr (.inl rfl), .inr rfl⟩
theorem set1E : Statement (.set1E) := ⟨rfl, .inr (.inl rfl), .inr rfl⟩
theorem set1H : Statement (.set1H) := ⟨rfl, .inr (.inl rfl), .inr rfl⟩
theorem set1L : Statement (.set1L) := ⟨rfl, .inr (.inl rfl), .inr rfl⟩
theorem set1IndHl : Statement (.set1IndHl) := ⟨rfl, .inr (.inl rfl), .inr rfl⟩
theorem set1A : Statement (.set1A) := ⟨rfl, .inr (.inl rfl), .inr rfl⟩
theorem set2B : Statement (.set2B) := ⟨rfl, .inr (.inl rfl), .inr rfl⟩
theorem set2C : Statement (.set2C) := ⟨rfl, .inr (.inl rfl), .inr rfl⟩
theorem set2D : Statement (.set2D) := ⟨rfl, .inr (.inl rfl), .inr rfl⟩
theorem set2E : Statement (.set2E) := ⟨rfl, .inr (.inl rfl), .inr rfl⟩
theorem set2H : Statement (.set2H) := ⟨rfl, .inr (.inl rfl), .inr rfl⟩
theorem set2L : Statement (.set2L) := ⟨rfl, .inr (.inl rfl), .inr rfl⟩
theorem set2IndHl : Statement (.set2IndHl) := ⟨rfl, .inr (.inl rfl), .inr rfl⟩
theorem set2A : Statement (.set2A) := ⟨rfl, .inr (.inl rfl), .inr rfl⟩
theorem set3B : Statement (.set3B) := ⟨rfl, .inr (.inl rfl), .inr rfl⟩
theorem set3C : Statement (.set3C) := ⟨rfl, .inr (.inl rfl), .inr rfl⟩
theorem set3D : Statement (.set3D) := ⟨rfl, .inr (.inl rfl), .inr rfl⟩
theorem set3E : Statement (.set3E) := ⟨rfl, .inr (.inl rfl), .inr rfl⟩
theorem set3H : Statement (.set3H) := ⟨rfl, .inr (.inl rfl), .inr rfl⟩
theorem set3L : Statement (.set3L) := ⟨rfl, .inr (.inl rfl), .inr rfl⟩
theorem set3IndHl : Statement (.set3IndHl) := ⟨rfl, .inr (.inl rfl), .inr rfl⟩
theorem set3A : Statement (.set3A) := ⟨rfl, .inr (.inl rfl), .inr rfl⟩
theorem set4B : Statement (.set4B) := ⟨rfl, .inr (.inl rfl), .inr rfl⟩
theorem set4C : Statement (.set4C) := ⟨rfl, .inr (.inl rfl), .inr rfl⟩
theorem set4D : Statement (.set4D) := ⟨rfl, .inr (.inl rfl), .inr rfl⟩
theorem set4E : Statement (.set4E) := ⟨rfl, .inr (.inl rfl), .inr rfl⟩
theorem set4H : Statement (.set4H) := ⟨rfl, .inr (.inl rfl), .inr rfl⟩
theorem set4L : Statement (.set4L) := ⟨rfl, .inr (.inl rfl), .inr rfl⟩
theorem set4IndHl : Statement (.set4IndHl) := ⟨rfl, .inr (.inl rfl), .inr rfl⟩
theorem set4A : Statement (.set4A) := ⟨rfl, .inr (.inl rfl), .inr rfl⟩
theorem set5B : Statement (.set5B) := ⟨rfl, .inr (.inl rfl), .inr rfl⟩
theorem set5C : Statement (.set5C) := ⟨rfl, .inr (.inl rfl), .inr rfl⟩
theorem set5D : Statement (.set5D) := ⟨rfl, .inr (.inl rfl), .inr rfl⟩
theorem set5E : Statement (.set5E) := ⟨rfl, .inr (.inl rfl), .inr rfl⟩
theorem set5H : Statement (.set5H) := ⟨rfl, .inr (.inl rfl), .inr rfl⟩
theorem set5L : Statement (.set5L) := ⟨rfl, .inr (.inl rfl), .inr rfl⟩
theorem set5IndHl : Statement (.set5IndHl) := ⟨rfl, .inr (.inl rfl), .inr rfl⟩
theorem set5A : Statement (.set5A) := ⟨rfl, .inr (.inl rfl), .inr rfl⟩
theorem set6B : Statement (.set6B) := ⟨rfl, .inr (.inl rfl), .inr rfl⟩
theorem set6C : Statement (.set6C) := ⟨rfl, .inr (.inl rfl), .inr rfl⟩
theorem set6D : Statement (.set6D) := ⟨rfl, .inr (.inl rfl), .inr rfl⟩
theorem set6E : Statement (.set6E) := ⟨rfl, .inr (.inl rfl), .inr rfl⟩
theorem set6H : Statement (.set6H) := ⟨rfl, .inr (.inl rfl), .inr rfl⟩
theorem set6L : Statement (.set6L) := ⟨rfl, .inr (.inl rfl), .inr rfl⟩
theorem set6IndHl : Statement (.set6IndHl) := ⟨rfl, .inr (.inl rfl), .inr rfl⟩
theorem set6A : Statement (.set6A) := ⟨rfl, .inr (.inl rfl), .inr rfl⟩
theorem set7B : Statement (.set7B) := ⟨rfl, .inr (.inl rfl), .inr rfl⟩
theorem set7C : Statement (.set7C) := ⟨rfl, .inr (.inl rfl), .inr rfl⟩
theorem set7D : Statement (.set7D) := ⟨rfl, .inr (.inl rfl), .inr rfl⟩
theorem set7E : Statement (.set7E) := ⟨rfl, .inr (.inl rfl), .inr rfl⟩
theorem set7H : Statement (.set7H) := ⟨rfl, .inr (.inl rfl), .inr rfl⟩
theorem set7L : Statement (.set7L) := ⟨rfl, .inr (.inl rfl), .inr rfl⟩
theorem set7IndHl : Statement (.set7IndHl) := ⟨rfl, .inr (.inl rfl), .inr rfl⟩
theorem set7A : Statement (.set7A) := ⟨rfl, .inr (.inl rfl), .inr rfl⟩

end Sys2Proof.Laws.Populated
end

