-- ==== Sys2Proof/Laws/Step.lean ====
section
/-! SUPPORT. How an instruction, a fetch, an interrupt entry and a step can end, said once. -/

namespace Sys2Proof.Machine

variable {s t u : State} {d : Descriptor} {handler : Handler} {i : Instr}

/-! ### An instruction -/

/-- An instruction completes exactly when its handler answers; the outcome is then applied (R160 steps 4 to 6). -/
theorem perform_eq_next :
    perform d handler s = .next t ↔ ∃ o u, handler s = .ok (o, u) ∧ t = applyOutcome d o s.pc u := by
  unfold perform
  cases h : handler s with
  | error e => cases e <;> simp [Stop.toOutcome]
  | ok p => obtain ⟨o, u⟩ := p; simp [eq_comm]

theorem perform_of_ok {o : ExecutionOutcome} (h : handler s = .ok (o, u)) :
    perform d handler s = .next (applyOutcome d o s.pc u) := by
  unfold perform
  rw [h]

theorem perform_of_error {e : Stop} (h : handler s = .error e) : perform d handler s = e.toOutcome := by
  unfold perform
  rw [h]

/-- Applying an outcome writes the cycle count and PC only. -/
theorem applyOutcome_frame (d : Descriptor) (o : ExecutionOutcome) (pc0 : Word) (u : State) :
    applyOutcome d o pc0 u = { u with pc := (applyOutcome d o pc0 u).pc
                                      cycles := u.cycles + perMCycle u.config * d.charge o } := by
  cases o <;> rfl

/-- The outcome `None` of a handler that left PC, the cycle count and the parameters is `advanced`. -/
theorem applyOutcome_none {length base extra : Nat} (hc : u.cycles = s.cycles) (hg : u.config = s.config) :
    applyOutcome ⟨length, base, extra⟩ .none s.pc u = u.advanced s length base := by
  unfold applyOutcome State.advanced
  simp only [State.addCycles, State.setPc, Descriptor.charge, hc, hg]

/-- The outcome `Jumped` of a handler that set PC is `jumped`. -/
theorem applyOutcome_jumped {length base extra : Nat} {target : Word} (hp : u.pc = target) (hc : u.cycles = s.cycles)
    (hg : u.config = s.config) : applyOutcome ⟨length, base, extra⟩ .jumped s.pc u = u.jumped s target base := by
  subst hp
  unfold applyOutcome State.jumped
  simp only [State.addCycles, Descriptor.charge, hc, hg]

/-- The outcome `JumpedActionTaken` charges the extra cost as well. -/
theorem applyOutcome_jumpedActionTaken {length base extra : Nat} {target : Word} (hp : u.pc = target)
    (hc : u.cycles = s.cycles) (hg : u.config = s.config) :
    applyOutcome ⟨length, base, extra⟩ .jumpedActionTaken s.pc u = u.jumped s target (base + extra) := by
  subst hp
  unfold applyOutcome State.jumped
  simp only [State.addCycles, Descriptor.charge, hc, hg]

/-! ### The fetch -/

theorem fetchOpcode_busStep {pc0 : Word} {op : Opcode} (h : fetchOpcode pc0 s = .ok (op, t)) :
    t = { s with draws := t.draws } := by
  unfold fetchOpcode at h
  obtain ⟨⟨b0, u⟩, hu, h⟩ := Res.bind_eq_ok.1 h
  obtain ⟨-, rfl⟩ := busRead_eq_ok.1 hu
  dsimp only at h
  split at h
  · obtain ⟨⟨b1, w⟩, hw, h⟩ := Res.bind_eq_ok.1 h
    obtain ⟨-, rfl⟩ := busRead_eq_ok.1 hw
    simp only [Res.pure_eq, Except.ok.injEq, Prod.mk.injEq] at h
    rw [← h.2, State.afterRead_eq, State.afterRead_eq]
  · simp only [Res.pure_eq, Except.ok.injEq, Prod.mk.injEq] at h
    rw [← h.2, State.afterRead_eq]

theorem fetchOperand_frame {e : Entry} {pc0 : Word} (h : fetchOperand e pc0 s = .ok (i, t)) :
    t = { s with draws := t.draws } := by
  unfold fetchOperand at h
  split at h
  · simp only [Except.ok.injEq, Prod.mk.injEq] at h; rw [← h.2]
  · simp only [Except.ok.injEq, Prod.mk.injEq] at h; rw [← h.2]
  · obtain ⟨⟨n, w⟩, hw, h⟩ := Res.bind_eq_ok.1 h
    obtain ⟨-, rfl⟩ := busRead_eq_ok.1 hw
    simp only [Res.pure_eq, Except.ok.injEq, Prod.mk.injEq] at h
    rw [← h.2, State.afterRead_eq]
  · obtain ⟨⟨n, w⟩, hw, h⟩ := Res.bind_eq_ok.1 h
    obtain ⟨lo, hi, -, -, -, rfl⟩ := memRead16_eq_ok.1 hw
    simp only [Res.pure_eq, Except.ok.injEq, Prod.mk.injEq] at h
    rw [← h.2, State.afterRead_eq, State.afterRead_eq]

/-- A fetch writes nothing; it can only count draws (R70, R160 step 2). -/
theorem fetchInstr_frame (h : fetchInstr s = .ok (i, t)) : t = { s with draws := t.draws } := by
  unfold fetchInstr at h
  dsimp only at h
  obtain ⟨⟨op, u⟩, hu, h⟩ := Res.bind_eq_ok.1 h
  have hf := fetchOpcode_busStep hu
  dsimp only at h
  split at h
  · split at h
    · simp only [Res.pure_eq, Except.ok.injEq, Prod.mk.injEq] at h
      rw [← h.2]; exact hf
    · split at h
      · have := fetchOperand_frame h
        rw [hf] at this
        exact this
      · simp at h
  · simp at h

/-! ### Interrupts -/

/-- What the check before the fetch can do (R410, R411, R420): nothing; a wake; or an interrupt entry. -/
theorem interruptCheck_cases {b : Bool} (h : interruptCheck s = .ok (b, t)) :
    (b = false ∧ t = s ∧ (s.config.interruptModel = .none ∨ s.pending = 0)) ∨
    (b = false ∧ t = s.setHalted false ∧ s.config.interruptModel = .sm83 ∧ s.pending ≠ 0 ∧ s.ime = false) ∨
    (b = true ∧ s.config.interruptModel = .sm83 ∧ s.pending ≠ 0 ∧ s.ime = true ∧
      takeInterrupt (lowestPending s.pending) (s.setHalted false) = .ok t) := by
  unfold interruptCheck at h
  split at h
  · simp only [Except.ok.injEq, Prod.mk.injEq] at h
    exact .inl ⟨h.1.symm, h.2.symm, .inl ‹_›⟩
  · split at h
    · simp only [Except.ok.injEq, Prod.mk.injEq] at h
      exact .inl ⟨h.1.symm, h.2.symm, .inr ‹_›⟩
    · dsimp only at h
      cases hi : s.ime
      · rw [hi] at h
        simp only [Bool.false_eq_true, if_false, Except.ok.injEq, Prod.mk.injEq] at h
        exact .inr (.inl ⟨h.1.symm, h.2.symm, ‹_›, ‹_›, rfl⟩)
      · rw [hi, if_pos rfl] at h
        obtain ⟨w, hw, h⟩ := Res.bind_eq_ok.1 h
        simp only [Res.pure_eq, Except.ok.injEq, Prod.mk.injEq] at h
        exact .inr (.inr ⟨h.1.symm, ‹_›, ‹_›, rfl, h.2 ▸ hw⟩)

/-- The state an interrupt entry pushes from: the request cleared, interrupts disabled (R412). -/
def State.acknowledged (s : State) (i : Nat) : State :=
  ((s.setIf (s.ifReg &&& ~~~(1#8 <<< i))).setIme false).setEiDelay false

theorem takeInterrupt_eq_ok {k : Nat} :
    takeInterrupt k s = .ok t ↔ ∃ u, push16 s.pc (s.acknowledged k) = .ok u ∧
      t = (u.setPc (BitVec.ofNat 16 (0x0040 + 8 * k))).addCycles (perMCycle u.config * 5) := by
  unfold takeInterrupt
  dsimp only
  rw [Res.bind_eq_ok]
  simp only [Res.pure_eq, Except.ok.injEq, eq_comm (b := t)]
  rfl

/-! ### The step -/

theorem afterExec_eq_next {b : Bool} {o : StepOutcome} :
    afterExec b o = .next t ↔ ∃ u, o = .next u ∧ t = promoteEi b u := by
  cases o <;> simp [afterExec, eq_comm]

theorem promoteEi_frame (b : Bool) (s : State) :
    promoteEi b s = { s with ime := (promoteEi b s).ime, eiDelay := (promoteEi b s).eiDelay } := by
  unfold promoteEi
  split <;> rfl

theorem runInstruction_eq_next :
    runInstruction s = .next t ↔ ∃ i u w, fetchInstr s = .ok (i, u) ∧ exec i u = .next w ∧ t = promoteEi s.eiDelay w := by
  unfold runInstruction
  cases h : fetchInstr s with
  | error e => cases e <;> simp [Stop.toOutcome]
  | ok p =>
    obtain ⟨i, u⟩ := p
    simp only [afterExec_eq_next]
    constructor
    · rintro ⟨w, hw, ht⟩; exact ⟨i, u, w, rfl, hw, ht⟩
    · rintro ⟨i', u', w, he, hw, ht⟩
      simp only [Except.ok.injEq, Prod.mk.injEq] at he
      obtain ⟨rfl, rfl⟩ := he
      exact ⟨w, hw, ht⟩

/-- Where no interrupt check applies and the engine runs, the step is one of R160. -/
theorem step_of_runs (h : s.runs) : step s = runInstruction s := by
  unfold step stepOnce
  rw [h.1]
  simp [h.2.1, h.2.2]

/-- Everything a completed step can have done: an interrupt entry, nothing because the engine is halted or stopped, or one
instruction with EI's delayed enable after it. -/
theorem step_cases (h : step s = .next t) :
    (s.config.interruptModel = .sm83 ∧ s.pending ≠ 0 ∧ s.ime = true ∧
      takeInterrupt (lowestPending s.pending) (s.setHalted false) = .ok t) ∨
    ∃ r, (r = s ∨ r = s.setHalted false) ∧ interruptCheck s = .ok (false, r) ∧
      ((t = r ∧ (r.halted = true ∨ r.stopped = true)) ∨
        (r.halted = false ∧ r.stopped = false ∧ ∃ i u w, fetchInstr r = .ok (i, u) ∧ exec i u = .next w ∧
          t = promoteEi r.eiDelay w)) := by
  unfold step stepOnce at h
  cases hc : interruptCheck s with
  | error e => rw [hc] at h; cases e <;> simp [Stop.toOutcome] at h
  | ok p =>
    obtain ⟨b, r⟩ := p
    rw [hc] at h
    rcases interruptCheck_cases hc with ⟨rfl, hr, -⟩ | ⟨rfl, hr, -⟩ | ⟨rfl, h1, h2, h3, h4⟩
    case inr.inr =>
      simp only [Host.Outcome.next.injEq] at h
      exact .inl ⟨h1, h2, h3, h ▸ h4⟩
    all_goals
      refine .inr ⟨r, by first | exact .inl hr | exact .inr hr, rfl, ?_⟩
      simp only at h
      split at h
      · simp only [Host.Outcome.next.injEq] at h
        exact .inl ⟨h.symm, by simpa using ‹(r.halted || r.stopped) = true›⟩
      · have hn : r.halted = false ∧ r.stopped = false := by simpa using ‹¬ (r.halted || r.stopped) = true›
        exact .inr ⟨hn.1, hn.2, runInstruction_eq_next.1 h⟩

end Sys2Proof.Machine
end

