-- ==== Sys2Proof/Laws/Trace.lean ====
section
/-! SUPPORT. The accesses of an instruction, said once over all 500: an instruction that completes is a sequence of bus reads,
bus writes at the addresses of `storedAt`, and updates of the CPU's own registers. -/

namespace Sys2Proof.Machine

/-- `t` differs from `s` in the CPU's own registers and latches and the cycle count only, and a clear low nibble of F stays
clear (R32). -/
structure State.RegStep (s t : State) : Prop where
  frame : t = { s with a := t.a, f := t.f, b := t.b, c := t.c, d := t.d, e := t.e, h := t.h, l := t.l, sp := t.sp
                       pc := t.pc, ime := t.ime, eiDelay := t.eiDelay, halted := t.halted, stopped := t.stopped
                       cycles := t.cycles }
  lowNibble : s.f &&& 0x0F = 0 → t.f &&& 0x0F = 0

/-- What leads from `s` to `t`: register updates, bus reads, and bus writes at addresses in `P`. -/
inductive State.Trace (P : Word → Prop) : State → State → Prop where
  | regs {s t : State} (h : s.RegStep t) : Trace P s t
  | read (s : State) (a : Word) : Trace P s (s.afterRead a)
  | write {s t : State} {a : Word} {v : Byte} (ha : P a) (h : busWrite a v s = .ok t) : Trace P s t
  | trans {s t u : State} (h₁ : Trace P s t) (h₂ : Trace P t u) : Trace P s u

variable {P : Word → Prop} {s t u : State} {v : Byte} {w a : Word} {o : ExecutionOutcome}

theorem State.RegStep.refl (s : State) : s.RegStep s := ⟨rfl, id⟩

theorem State.Trace.refl (s : State) : Trace P s s := .regs (.refl s)

theorem State.Trace.reg (h₁ : Trace P s t) (h₂ : t.RegStep u) : Trace P s u := .trans h₁ (.regs h₂)

theorem lowNibble_setFlags (s : State) (z n h cy : Bool) : (s.setFlags z n h cy).f &&& 0x0F = s.f &&& 0x0F := by
  show (flagBits z n h cy ||| (s.f &&& 0x0F)) &&& 0x0F = s.f &&& 0x0F
  rw [BitVec.and_or_distrib_right, BitVec.and_assoc]
  cases z <;> cases n <;> cases h <;> cases cy <;> simp [flagBits]

theorem State.RegStep.setFlags (s : State) (z n h cy : Bool) : s.RegStep (s.setFlags z n h cy) :=
  ⟨rfl, fun hz => (lowNibble_setFlags s z n h cy).trans hz⟩

theorem State.RegStep.setReg8 (s : State) (r : Reg8) (v : Byte) : s.RegStep (s.setReg8 r v) := by
  cases r <;> exact ⟨rfl, id⟩

theorem State.RegStep.setPc (s : State) (v : Word) : s.RegStep (s.setPc v) := ⟨rfl, id⟩

theorem State.RegStep.setReg16 (s : State) (p : Reg16) (v : Word) : s.RegStep (s.setReg16 p v) := by
  cases p <;> exact ⟨rfl, id⟩

theorem State.RegStep.setStackPair (s : State) (q : StackPair) (v : Word) : s.RegStep (s.setStackPair q v) := by
  cases q
  case af =>
    refine ⟨rfl, fun _ => ?_⟩
    show (v.lo &&& 0xF0) &&& 0x0F = 0
    rw [BitVec.and_assoc]
    exact BitVec.and_zero
  all_goals exact ⟨rfl, id⟩

theorem State.RegStep.trans (h₁ : s.RegStep t) (h₂ : t.RegStep u) : s.RegStep u := by
  refine ⟨?_, fun h => h₂.lowNibble (h₁.lowNibble h)⟩
  have hf := h₂.frame
  rw [h₁.frame] at hf
  exact hf

/-! ### Operands -/

theorem busRead_trace (h : busRead a s = .ok (v, t)) : State.Trace P s t := by
  rw [(busRead_eq_ok.1 h).2]
  exact .read s a

theorem readOperand8_trace {x : Operand8} (h : readOperand8 x s = .ok (v, t)) : State.Trace P s t := by
  cases x
  · simp only [readOperand8, Except.ok.injEq, Prod.mk.injEq] at h
    exact h.2 ▸ .refl s
  · exact busRead_trace h

theorem readOperand8_hl {x : Operand8} (h : readOperand8 x s = .ok (v, t)) : t.hl = s.hl := by
  cases x
  · simp only [readOperand8, Except.ok.injEq, Prod.mk.injEq] at h
    rw [h.2]
  · exact (busRead_busStep h).hl

theorem readSource_trace {x : AluSource} (h : readSource x s = .ok (v, t)) : State.Trace P s t := by
  cases x
  · simp only [readSource, Except.ok.injEq, Prod.mk.injEq] at h
    exact h.2 ▸ .refl s
  · exact busRead_trace h
  · simp only [readSource, Except.ok.injEq, Prod.mk.injEq] at h
    exact h.2 ▸ .refl s

theorem writeOperand8_trace {x : Operand8} (hp : x = .indHl → P s.hl) (h : writeOperand8 x v s = .ok t) :
    State.Trace P s t := by
  cases x
  · simp only [writeOperand8, Except.ok.injEq] at h
    exact h ▸ .regs (.setReg8 ..)
  · exact .write (hp rfl) h

theorem memRead16_trace (h : memRead16 a s = .ok (w, t)) : State.Trace P s t := by
  obtain ⟨lo, hi, -, -, -, rfl⟩ := memRead16_eq_ok.1 h
  exact .trans (.read s a) (.read _ _)

theorem memWrite16_trace (h₁ : P (a + 1)) (h₂ : P a) (h : memWrite16 a w s = .ok t) : State.Trace P s t := by
  obtain ⟨u, hu, ht⟩ := memWrite16_eq_ok.1 h
  exact .trans (.write h₁ hu) (.write h₂ ht)

theorem push16_trace (h₁ : P (s.sp - 1)) (h₂ : P (s.sp - 2)) (h : push16 w s = .ok t) : State.Trace P s t := by
  rw [push16_eq] at h
  have hs : s.sp - 2 + 1 = s.sp - 1 := by
    rw [BitVec.sub_add_comm]
    apply BitVec.eq_of_toNat_eq
    simp only [BitVec.toNat_sub, BitVec.toNat_add]
    have h1 : (1 : Word).toNat = 1 := rfl
    have h2 : (2 : Word).toNat = 2 := rfl
    rw [h1, h2]
    omega
  exact .trans (.regs (t := s.setSp (s.sp - 2)) ⟨rfl, id⟩) (memWrite16_trace (hs ▸ h₁) h₂ h)

theorem pop16_trace (h : pop16 s = .ok (w, t)) : State.Trace P s t := by
  obtain ⟨u, hu, rfl⟩ := pop16_eq_ok.1 h
  exact .reg (memRead16_trace hu) ⟨rfl, id⟩

theorem callTo_trace {target : Word} (h₁ : P (s.sp - 1)) (h₂ : P (s.sp - 2)) (h : callTo w target s = .ok t) :
    State.Trace P s t := by
  obtain ⟨u, hu, h⟩ := Res.bind_eq_ok.1 h
  simp only [Res.pure_eq, Except.ok.injEq] at h
  subst h
  exact .reg (push16_trace h₁ h₂ hu) ⟨rfl, id⟩

theorem returnFrom_trace (h : returnFrom s = .ok t) : State.Trace P s t := by
  obtain ⟨⟨x, u⟩, hu, h⟩ := Res.bind_eq_ok.1 h
  simp only [Res.pure_eq, Except.ok.injEq] at h
  subst h
  exact .reg (pop16_trace hu) ⟨rfl, id⟩

/-! ### Every instruction -/

theorem perform_trace {d : Descriptor} {handler : Handler} (hh : ∀ o u, handler s = .ok (o, u) → State.Trace P s u)
    (h : perform d handler s = .next t) : State.Trace P s t := by
  obtain ⟨o, u, hu, rfl⟩ := perform_eq_next.1 h
  refine .reg (hh o u hu) ?_
  rw [applyOutcome_frame]
  exact ⟨rfl, id⟩

/-- A handler that answers a register update is a trace. -/
theorem regs_trace {r : State} {o' : ExecutionOutcome} (hr : s.RegStep r)
    (h : (.ok (o', r) : Res (ExecutionOutcome × State)) = .ok (o, u)) : State.Trace P s u := by
  simp only [Except.ok.injEq, Prod.mk.injEq] at h
  exact h.2 ▸ .regs hr

/-- A load: one read, then a register update. -/
theorem load_trace {f : Byte → State → State} (hf : ∀ (v : Byte) (r : State), r.RegStep (f v r))
    (h : (do let (v, r) ← busRead a s; return (.none, f v r) : Res (ExecutionOutcome × State)) = .ok (o, u)) :
    State.Trace P s u := by
  obtain ⟨⟨v, r⟩, hv, h⟩ := Res.bind_eq_ok.1 h
  simp only [Res.pure_eq, Except.ok.injEq, Prod.mk.injEq] at h
  exact h.2 ▸ .reg (busRead_trace hv) (hf v r)

/-- A store: one write, then a register update. -/
theorem store_trace {f : State → State} (hp : P a) (hf : ∀ r : State, r.RegStep (f r))
    (h : (do let r ← busWrite a v s; return (.none, f r) : Res (ExecutionOutcome × State)) = .ok (o, u)) :
    State.Trace P s u := by
  obtain ⟨r, hr, h⟩ := Res.bind_eq_ok.1 h
  simp only [Res.pure_eq, Except.ok.injEq, Prod.mk.injEq] at h
  exact h.2 ▸ .reg (.write hp hr) (hf r)

/-- A read, a write of the same operand, and a register update. -/
theorem modify_trace {x : Operand8} {g : Byte → State → Byte} {f : Byte → State → State → State}
    (hp : x = .indHl → P s.hl) (hf : ∀ (v : Byte) (r q : State), q.RegStep (f v r q))
    (h : (do let (v, r) ← readOperand8 x s; let q ← writeOperand8 x (g v r) r; return (.none, f v r q) :
      Res (ExecutionOutcome × State)) = .ok (o, u)) : State.Trace P s u := by
  obtain ⟨⟨v, r⟩, hv, h⟩ := Res.bind_eq_ok.1 h
  obtain ⟨q, hq, h⟩ := Res.bind_eq_ok.1 h
  simp only [Res.pure_eq, Except.ok.injEq, Prod.mk.injEq] at h
  exact h.2 ▸ .reg (.trans (readOperand8_trace hv)
    (writeOperand8_trace (fun hx => (readOperand8_hl hv).symm ▸ hp hx) hq)) (hf v r q)

/-- A computation that answers a state, then an outcome. -/
theorem outcome_trace {x : Res State} {o' : ExecutionOutcome} (hx : ∀ r, x = .ok r → State.Trace P s r)
    (h : (do let r ← x; return (o', r) : Res (ExecutionOutcome × State)) = .ok (o, u)) : State.Trace P s u := by
  obtain ⟨r, hr, h⟩ := Res.bind_eq_ok.1 h
  simp only [Res.pure_eq, Except.ok.injEq, Prod.mk.injEq] at h
  exact h.2 ▸ hx r hr

/-- A conditional handler. -/
theorem cond_trace {c : Bool} {x y : Res (ExecutionOutcome × State)} (hx : c = true → x = .ok (o, u) → State.Trace P s u)
    (hy : c = false → y = .ok (o, u) → State.Trace P s u) (h : (if c then x else y) = .ok (o, u)) :
    State.Trace P s u := by
  cases c
  · exact hy rfl h
  · exact hx rfl h

theorem storedAt_callCond {cc : Cond} (a : Word) (h : s.cond cc = true) :
    storedAt (Instr.callCond cc a) s = [s.sp - 1, s.sp - 2] := by
  cases cc
  · exact if_neg (by simpa [State.cond] using h)
  · exact if_pos h
  · exact if_neg (by simpa [State.cond] using h)
  · exact if_pos h

/-- The instruction, where it completes, is a trace with writes at the addresses of `storedAt` only. -/
def Traced (i : Instr) : Prop := ∀ s t, exec i s = .next t → State.Trace (· ∈ storedAt i s) s t

theorem traced_ldRegReg (dst src : Reg8) : Traced (Instr.ldRegReg dst src) := by
  intro s t h
  rw [exec_ldRegReg] at h
  exact perform_trace (fun _ _ => regs_trace (.setReg8 ..)) h

theorem traced_ldRegN8 (dst : Reg8) (n : Byte) : Traced (Instr.ldRegN8 dst n) := by
  intro s t h
  rw [exec_ldRegN8] at h
  exact perform_trace (fun _ _ => regs_trace (.setReg8 ..)) h

theorem traced_ldRegIndHl (dst : Reg8) : Traced (Instr.ldRegIndHl dst) := by
  intro s t h
  rw [exec_ldRegIndHl] at h
  exact perform_trace (fun _ _ => load_trace (f := fun v r => r.setReg8 dst v) fun _ _ => .setReg8 ..) h

theorem traced_ldIndHlReg (src : Reg8) : Traced (Instr.ldIndHlReg src) := by
  intro s t h
  rw [exec_ldIndHlReg] at h
  have hp : s.hl ∈ storedAt (Instr.ldIndHlReg src) s := by cases src <;> exact List.mem_singleton.2 rfl
  exact perform_trace (fun _ _ => store_trace (f := id) hp .refl) h

theorem traced_ldPairN16 (p : Reg16) (n : Word) : Traced (Instr.ldPairN16 p n) := by
  intro s t h
  rw [exec_ldPairN16] at h
  exact perform_trace (fun _ _ => regs_trace (.setReg16 ..)) h

theorem traced_push (q : StackPair) : Traced (Instr.push q) := by
  intro s t h
  rw [exec_push] at h
  have hp : storedAt (Instr.push q) s = [s.sp - 1, s.sp - 2] := by cases q <;> rfl
  rw [hp]
  exact perform_trace (fun _ _ => outcome_trace fun _ => push16_trace (by simp) (by simp)) h

theorem traced_pop (q : StackPair) : Traced (Instr.pop q) := by
  intro s t h
  rw [exec_pop] at h
  refine perform_trace (fun o u h => ?_) h
  obtain ⟨⟨v, r⟩, hv, h⟩ := Res.bind_eq_ok.1 h
  simp only [Res.pure_eq, Except.ok.injEq, Prod.mk.injEq] at h
  exact h.2 ▸ .reg (pop16_trace hv) (.setStackPair ..)

theorem traced_alu (op : AluOp) (src : AluSource) : Traced (Instr.alu op src) := by
  intro s t h
  rw [exec_alu] at h
  refine perform_trace (fun o u h => ?_) h
  obtain ⟨⟨v, r⟩, hv, h⟩ := Res.bind_eq_ok.1 h
  simp only [Res.pure_eq, Except.ok.injEq, Prod.mk.injEq] at h
  exact h.2 ▸ .reg (readSource_trace hv) (.trans (.setReg8 ..) (.setFlags ..))

theorem traced_inc8 (x : Operand8) : Traced (Instr.inc8 x) := by
  intro s t h
  rw [exec_inc8] at h
  have hp : x = .indHl → s.hl ∈ storedAt (Instr.inc8 x) s := by
    rintro rfl; exact List.mem_singleton.2 rfl
  exact perform_trace (fun _ _ => modify_trace (g := fun v _ => v + 1)
    (f := fun v _ q => q.setFlagsZNH (decide (v + 1 = 0)) false (incHalf v)) hp fun _ _ _ => .setFlags ..) h

theorem traced_dec8 (x : Operand8) : Traced (Instr.dec8 x) := by
  intro s t h
  rw [exec_dec8] at h
  have hp : x = .indHl → s.hl ∈ storedAt (Instr.dec8 x) s := by
    rintro rfl; exact List.mem_singleton.2 rfl
  exact perform_trace (fun _ _ => modify_trace (g := fun v _ => v - 1)
    (f := fun v _ q => q.setFlagsZNH (decide (v - 1 = 0)) true (decHalf v)) hp fun _ _ _ => .setFlags ..) h

theorem traced_addHl (p : Reg16) : Traced (Instr.addHl p) := by
  intro s t h
  rw [exec_addHl] at h
  exact perform_trace (fun _ _ => regs_trace (.trans (.setReg16 s .hl _) (.setFlags ..))) h

theorem traced_inc16 (p : Reg16) : Traced (Instr.inc16 p) := by
  intro s t h
  rw [exec_inc16] at h
  exact perform_trace (fun _ _ => regs_trace (.setReg16 ..)) h

theorem traced_dec16 (p : Reg16) : Traced (Instr.dec16 p) := by
  intro s t h
  rw [exec_dec16] at h
  exact perform_trace (fun _ _ => regs_trace (.setReg16 ..)) h

theorem traced_shift (op : ShiftOp) (x : Operand8) : Traced (Instr.shift op x) := by
  intro s t h
  rw [exec_shift] at h
  have hp : x = .indHl → s.hl ∈ storedAt (Instr.shift op x) s := by
    rintro rfl; cases op <;> exact List.mem_singleton.2 rfl
  exact perform_trace (fun _ _ => modify_trace (g := fun v r => (shiftApply op v r.flagCy).1)
    (f := fun v r q => q.setFlags (decide ((shiftApply op v r.flagCy).1 = 0)) false false
      (shiftApply op v r.flagCy).2) hp fun _ _ _ => .setFlags ..) h

theorem traced_bit (b : BitIndex) (x : Operand8) : Traced (Instr.bit b x) := by
  intro s t h
  rw [exec_bit] at h
  refine perform_trace (fun o u h => ?_) h
  obtain ⟨⟨v, r⟩, hv, h⟩ := Res.bind_eq_ok.1 h
  simp only [Res.pure_eq, Except.ok.injEq, Prod.mk.injEq] at h
  exact h.2 ▸ .reg (readOperand8_trace hv) (.setFlags ..)

theorem traced_res (b : BitIndex) (x : Operand8) : Traced (Instr.res b x) := by
  intro s t h
  rw [exec_res] at h
  have hp : x = .indHl → s.hl ∈ storedAt (Instr.res b x) s := by
    rintro rfl; cases b <;> exact List.mem_singleton.2 rfl
  exact perform_trace (fun _ _ => modify_trace (g := fun v _ => clearBit b v)
    (f := fun _ _ q => q) hp fun _ _ => .refl) h

theorem traced_set (b : BitIndex) (x : Operand8) : Traced (Instr.set b x) := by
  intro s t h
  rw [exec_set] at h
  have hp : x = .indHl → s.hl ∈ storedAt (Instr.set b x) s := by
    rintro rfl; cases b <;> exact List.mem_singleton.2 rfl
  exact perform_trace (fun _ _ => modify_trace (g := fun v _ => setBit b v)
    (f := fun _ _ q => q) hp fun _ _ => .refl) h

theorem traced_jpCond (cc : Cond) (a : Word) : Traced (Instr.jpCond cc a) := by
  intro s t h
  rw [exec_jpCond] at h
  refine perform_trace (fun o u hu => ?_) h
  unfold handleJpCond at hu
  exact cond_trace (fun _ => regs_trace (.setPc ..)) (fun _ => regs_trace (.refl s)) hu

theorem traced_jrCond (cc : Cond) (e : Byte) : Traced (Instr.jrCond cc e) := by
  intro s t h
  rw [exec_jrCond] at h
  refine perform_trace (fun o u hu => ?_) h
  unfold handleJrCond at hu
  exact cond_trace (fun _ => regs_trace (.setPc ..)) (fun _ => regs_trace (.refl s)) hu

theorem traced_callCond (cc : Cond) (a : Word) : Traced (Instr.callCond cc a) := by
  intro s t h
  rw [exec_callCond] at h
  refine perform_trace (fun o u hu => ?_) h
  unfold handleCallCond at hu
  refine cond_trace (fun hc => ?_) (fun _ => regs_trace (.refl s)) hu
  rw [storedAt_callCond a hc]
  exact outcome_trace fun _ => callTo_trace (by simp) (by simp)

theorem traced_retCond (cc : Cond) : Traced (Instr.retCond cc) := by
  intro s t h
  rw [exec_retCond] at h
  refine perform_trace (fun o u hu => ?_) h
  unfold handleRetCond at hu
  exact cond_trace (fun _ => outcome_trace fun _ => returnFrom_trace) (fun _ => regs_trace (.refl s)) hu

theorem traced_rst (x : RstTarget) : Traced (Instr.rst x) := by
  intro s t h
  rw [exec_rst] at h
  have hp : storedAt (Instr.rst x) s = [s.sp - 1, s.sp - 2] := by cases x <;> rfl
  rw [hp]
  exact perform_trace (fun _ _ => outcome_trace fun _ => callTo_trace (by simp) (by simp)) h

theorem traced_nop : Traced .nop := by
  intro s t h
  rw [exec_nop] at h
  exact perform_trace (fun _ _ => regs_trace (.refl s)) h

theorem traced_stop : Traced .stop := by
  intro s t h
  rw [exec_stop] at h
  refine perform_trace (fun o u hu => ?_) h
  unfold handleStop at hu
  split at hu
  · exact regs_trace (.refl s) hu
  · exact regs_trace (r := s.setStopped true) ⟨rfl, id⟩ hu

theorem traced_halt : Traced .halt := by
  intro s t h
  rw [exec_halt] at h
  refine perform_trace (fun o u hu => ?_) h
  unfold handleHalt at hu
  split at hu
  · exact regs_trace (.refl s) hu
  · split at hu
    · simp at hu
    · exact regs_trace (r := s.setHalted true) ⟨rfl, id⟩ hu

theorem traced_di : Traced .di := by
  intro s t h
  rw [exec_di] at h
  have hr : s.RegStep ((s.setIme false).setEiDelay false) := ⟨rfl, id⟩
  exact perform_trace (fun _ _ => regs_trace hr) h

theorem traced_ei : Traced .ei := by
  intro s t h
  rw [exec_ei] at h
  exact perform_trace (fun _ _ => regs_trace (r := s.setEiDelay true) ⟨rfl, id⟩) h

theorem traced_rlca : Traced .rlca := by
  intro s t h
  rw [exec_rlca] at h
  exact perform_trace (fun _ _ => regs_trace (.trans (.setReg8 s .a _) (.setFlags ..))) h

theorem traced_rrca : Traced .rrca := by
  intro s t h
  rw [exec_rrca] at h
  exact perform_trace (fun _ _ => regs_trace (.trans (.setReg8 s .a _) (.setFlags ..))) h

theorem traced_rla : Traced .rla := by
  intro s t h
  rw [exec_rla] at h
  exact perform_trace (fun _ _ => regs_trace (.trans (.setReg8 s .a _) (.setFlags ..))) h

theorem traced_rra : Traced .rra := by
  intro s t h
  rw [exec_rra] at h
  exact perform_trace (fun _ _ => regs_trace (.trans (.setReg8 s .a _) (.setFlags ..))) h

theorem traced_daa : Traced .daa := by
  intro s t h
  rw [exec_daa] at h
  exact perform_trace (fun _ _ => regs_trace (.trans (.setReg8 s .a _) (.setFlags ..))) h

theorem traced_cpl : Traced .cpl := by
  intro s t h
  rw [exec_cpl] at h
  exact perform_trace (fun _ _ => regs_trace (.trans (.setReg8 s .a _) (.setFlags ..))) h

theorem traced_scf : Traced .scf := by
  intro s t h
  rw [exec_scf] at h
  exact perform_trace (fun _ _ => regs_trace (.setFlags ..)) h

theorem traced_ccf : Traced .ccf := by
  intro s t h
  rw [exec_ccf] at h
  exact perform_trace (fun _ _ => regs_trace (.setFlags ..)) h

theorem traced_jrE8 (n : Byte) : Traced (.jrE8 n) := by
  intro s t h
  rw [exec_jrE8] at h
  exact perform_trace (fun _ _ => regs_trace (.setPc ..)) h

theorem traced_jpA16 (n : Word) : Traced (.jpA16 n) := by
  intro s t h
  rw [exec_jpA16] at h
  exact perform_trace (fun _ _ => regs_trace (.setPc ..)) h

theorem traced_jpHl : Traced .jpHl := by
  intro s t h
  rw [exec_jpHl] at h
  exact perform_trace (fun _ _ => regs_trace (.setPc ..)) h

theorem traced_ldSpHl : Traced .ldSpHl := by
  intro s t h
  rw [exec_ldSpHl] at h
  exact perform_trace (fun _ _ => regs_trace (.setReg16 s .sp _)) h

theorem traced_addSpE8 (n : Byte) : Traced (.addSpE8 n) := by
  intro s t h
  rw [exec_addSpE8] at h
  exact perform_trace (fun _ _ => regs_trace (.trans (.setReg16 s .sp _) (.setFlags ..))) h

theorem traced_ldHlSpE8 (n : Byte) : Traced (.ldHlSpE8 n) := by
  intro s t h
  rw [exec_ldHlSpE8] at h
  exact perform_trace (fun _ _ => regs_trace (.trans (.setReg16 s .hl _) (.setFlags ..))) h

theorem traced_ret : Traced .ret := by
  intro s t h
  rw [exec_ret] at h
  exact perform_trace (fun _ _ => outcome_trace fun _ => returnFrom_trace) h

theorem traced_reti : Traced .reti := by
  intro s t h
  rw [exec_reti] at h
  refine perform_trace (fun _ _ => outcome_trace fun r hr => ?_) h
  obtain ⟨⟨x, q⟩, hq, hr⟩ := Res.bind_eq_ok.1 hr
  simp only [Res.pure_eq, Except.ok.injEq] at hr
  exact hr ▸ .reg (pop16_trace hq) ⟨rfl, id⟩

theorem traced_callA16 (n : Word) : Traced (.callA16 n) := by
  intro s t h
  rw [exec_callA16] at h
  have hp : storedAt (.callA16 n) s = [s.sp - 1, s.sp - 2] := rfl
  rw [hp]
  exact perform_trace (fun _ _ => outcome_trace fun _ => callTo_trace (by simp) (by simp)) h

theorem traced_ldIndA16Sp (n : Word) : Traced (.ldIndA16Sp n) := by
  intro s t h
  rw [exec_ldIndA16Sp] at h
  have hp : storedAt (.ldIndA16Sp n) s = [n + 1, n] := rfl
  rw [hp]
  exact perform_trace (fun _ _ => outcome_trace fun _ => memWrite16_trace (by simp) (by simp)) h

theorem traced_ldAIndBc : Traced .ldAIndBc := by
  intro s t h
  rw [exec_ldAIndBc] at h
  exact perform_trace (fun _ _ => load_trace (f := fun v r => r.setReg8 .a v) fun _ _ => .setReg8 ..) h

theorem traced_ldAIndDe : Traced .ldAIndDe := by
  intro s t h
  rw [exec_ldAIndDe] at h
  exact perform_trace (fun _ _ => load_trace (f := fun v r => r.setReg8 .a v) fun _ _ => .setReg8 ..) h

theorem traced_ldAIndC : Traced .ldAIndC := by
  intro s t h
  rw [exec_ldAIndC] at h
  exact perform_trace (fun _ _ => load_trace (f := fun v r => r.setReg8 .a v) fun _ _ => .setReg8 ..) h

theorem traced_ldhAIndA8 (n : Byte) : Traced (.ldhAIndA8 n) := by
  intro s t h
  rw [exec_ldhAIndA8] at h
  exact perform_trace (fun _ _ => load_trace (f := fun v r => r.setReg8 .a v) fun _ _ => .setReg8 ..) h

theorem traced_ldAIndA16 (n : Word) : Traced (.ldAIndA16 n) := by
  intro s t h
  rw [exec_ldAIndA16] at h
  exact perform_trace (fun _ _ => load_trace (f := fun v r => r.setReg8 .a v) fun _ _ => .setReg8 ..) h

theorem traced_ldAIndHlInc : Traced .ldAIndHlInc := by
  intro s t h
  rw [exec_ldAIndHlInc] at h
  exact perform_trace (fun _ _ => load_trace (f := fun v r => (r.setReg8 .a v).setHl (s.hl + 1)) fun _ _ =>
    .trans (.setReg8 ..) (.setReg16 _ .hl _)) h

theorem traced_ldAIndHlDec : Traced .ldAIndHlDec := by
  intro s t h
  rw [exec_ldAIndHlDec] at h
  exact perform_trace (fun _ _ => load_trace (f := fun v r => (r.setReg8 .a v).setHl (s.hl + (-1))) fun _ _ =>
    .trans (.setReg8 ..) (.setReg16 _ .hl _)) h

theorem traced_ldIndHlIncA : Traced .ldIndHlIncA := by
  intro s t h
  rw [exec_ldIndHlIncA] at h
  exact perform_trace (fun _ _ => store_trace (f := fun r => r.setHl (s.hl + 1)) (List.mem_singleton.2 rfl)
    fun _ => .setReg16 _ .hl _) h

theorem traced_ldIndHlDecA : Traced .ldIndHlDecA := by
  intro s t h
  rw [exec_ldIndHlDecA] at h
  exact perform_trace (fun _ _ => store_trace (f := fun r => r.setHl (s.hl + (-1))) (List.mem_singleton.2 rfl)
    fun _ => .setReg16 _ .hl _) h

theorem traced_ldIndBcA : Traced .ldIndBcA := by
  intro s t h
  rw [exec_ldIndBcA] at h
  exact perform_trace (fun _ _ => store_trace (f := id) (List.mem_singleton.2 rfl) .refl) h

theorem traced_ldIndDeA : Traced .ldIndDeA := by
  intro s t h
  rw [exec_ldIndDeA] at h
  exact perform_trace (fun _ _ => store_trace (f := id) (List.mem_singleton.2 rfl) .refl) h

theorem traced_ldIndCA : Traced .ldIndCA := by
  intro s t h
  rw [exec_ldIndCA] at h
  exact perform_trace (fun _ _ => store_trace (f := id) (List.mem_singleton.2 rfl) .refl) h

theorem traced_ldIndHlN8 (n : Byte) : Traced (.ldIndHlN8 n) := by
  intro s t h
  rw [exec_ldIndHlN8] at h
  exact perform_trace (fun _ _ => store_trace (f := id) (List.mem_singleton.2 rfl) .refl) h

theorem traced_ldhIndA8A (n : Byte) : Traced (.ldhIndA8A n) := by
  intro s t h
  rw [exec_ldhIndA8A] at h
  exact perform_trace (fun _ _ => store_trace (f := id) (List.mem_singleton.2 rfl) .refl) h

theorem traced_ldIndA16A (n : Word) : Traced (.ldIndA16A n) := by
  intro s t h
  rw [exec_ldIndA16A] at h
  exact perform_trace (fun _ _ => store_trace (f := id) (List.mem_singleton.2 rfl) .refl) h

/-- Every instruction that completes is a trace with writes at the addresses of `storedAt` only. -/
theorem exec_trace (i : Instr) : Traced i :=
  Instr.byFamily traced_ldRegReg traced_ldRegN8 traced_ldRegIndHl traced_ldIndHlReg traced_ldPairN16 traced_push
    traced_pop traced_alu traced_inc8 traced_dec8 traced_addHl traced_inc16 traced_dec16
    traced_shift traced_bit traced_res traced_set traced_jpCond traced_jrCond traced_callCond
    traced_retCond traced_rst traced_nop traced_ldIndBcA traced_rlca traced_ldIndA16Sp
    traced_ldAIndBc traced_rrca traced_stop traced_ldIndDeA traced_rla traced_jrE8 traced_ldAIndDe
    traced_rra traced_ldIndHlIncA traced_daa traced_ldAIndHlInc traced_cpl traced_ldIndHlDecA
    traced_ldIndHlN8 traced_scf traced_ldAIndHlDec traced_ccf traced_halt traced_jpA16 traced_ret
    traced_callA16 traced_reti traced_ldhIndA8A traced_ldIndCA traced_addSpE8 traced_jpHl
    traced_ldIndA16A traced_ldhAIndA8 traced_ldAIndC traced_di traced_ldHlSpE8 traced_ldSpHl
    traced_ldAIndA16 traced_ei i

end Sys2Proof.Machine
end

