-- ==== Sys2Proof/Tests/Slice0.lean ====
section
/-! SUPPORT. The model's own tests: what WellFormed and the launch refuse, words written out from the spec's encodings, vectors
of 95_test_vectors.md (each named by its row), and for every obligation with hypotheses a concrete state that meets them. -/

open Sys2Proof Sys2Proof.Machine

namespace Sys2Proof.Tests

/-- The common start of the L2 vectors: every register 0, SP = 0xFFFE, PC = 0x0150. -/
def start : State :=
  { State.reset with a := 0, f := 0, b := 0, c := 0, d := 0, e := 0, h := 0, l := 0, sp := 0xFFFE, pc := 0x0150 }

/-- A store with consecutive bytes from an address. -/
def bytesFrom : List Byte → Nat → Memory → Memory
  | [], _, m => m
  | b :: bs, k, m => bytesFrom bs (k + 1) (m.write k b)

/-- A cartridge with a program at 0x0150. -/
def code (bs : List Byte) : Memory := bytesFrom bs 0x0150 []

/-- What a function of the state is after a completed step or instruction. -/
def after {α : Type} (o : StepOutcome) (f : State → α) : Option α :=
  match o with
  | .next t => some (f t)
  | _ => none

/-- What a function of the state is after a bus operation. -/
def busAfter {α : Type} (r : Res State) (f : State → α) : Option α :=
  match r with
  | .ok t => some (f t)
  | .error _ => none

/-- `INTERRUPT_MODEL = sm83`. -/
def sm83 : Config := { Config.reference with interruptModel := .sm83 }

end Sys2Proof.Tests

/-- The byte a read of an address returns, 0 where it raises the fatal. -/
def Sys2Proof.Machine.State.byteAt (s : State) (a : Word) : Byte :=
  match s.peek a with
  | .ok v => v
  | .error _ => 0

open Sys2Proof.Tests

/-! ### WellFormed: one ill-formed term for each check -/

theorem test_illFormed_plain : Instr.wellFormed { Config.reference with removedPlain := [0x00] } .nop = false := by decide
theorem test_illFormed_extended :
    Instr.wellFormed { Config.reference with removedExt := [0x7C] } .bit7H = false := by decide
theorem test_wellFormed_reference : Instr.wellFormed .reference .nop = true := by decide
theorem test_illFormed_tapOutsideBlock :
    Config.wellFormed { Config.reference with taps := { TapAddr.reference with lcdc := 0xFF80 } } = false := by decide
theorem test_illFormed_tapOnIf :
    Config.wellFormed { Config.reference with taps := { TapAddr.reference with dma := 0xFF0F } } = false := by decide
theorem test_illFormed_tapsShared :
    Config.wellFormed { Config.reference with taps := { TapAddr.reference with scx := 0xFF42 } } = false := by decide
theorem test_wellFormed_config : Config.wellFormed .reference = true := by decide

/-! ### The launch: one malformed state for each check (R452) -/

theorem test_launch_lowNibble : State.launch { State.reset with f := 0xB1 } = .refused .malformedLaunch := rfl
theorem test_launch_cycles : State.launch { State.reset with cycles := 1 } = .refused .malformedLaunch := rfl
theorem test_launch_latch : State.launch { State.reset with bootLatch := true } = .refused .malformedLaunch := rfl
theorem test_launch_ram : State.launch { State.reset with mem := [(0xC000, 0x01)] } = .refused .malformedLaunch := rfl

/-! ### Words written out from the encodings of R140 to R148 -/

-- LD r,r' is 01 ddd sss; LD r,n8 is 00 ddd 110; LD (HL),r has d = 6
theorem test_word_ld_e_h : decode [0b01_011_100] = .ok (.ldEH, []) := by decide
theorem test_word_ld_l_n8 : decode [0b00_101_110, 0x9C] = .ok (.ldLN8 0x9C, []) := by decide
theorem test_word_ld_hl_a : decode [0b01_110_111] = .ok (.ldIndHlA, []) := by decide
-- LD (HL-),A is x = 0, z = 2, q = 0, p = 3
theorem test_word_ldd : decode [0b00_110_010] = .ok (.ldIndHlDecA, []) := by decide
-- LDH A,(a8) is x = 3, z = 0, y = 6; LD A,(a16) is x = 3, z = 2, y = 7
theorem test_word_ldh : decode [0b11_110_000, 0x44] = .ok (.ldhAIndA8 0x44, []) := by decide
theorem test_word_ld_a_a16 : decode [0b11_111_010, 0xB0, 0xFE] = .ok (.ldAIndA16 0xFEB0, []) := by decide
-- LD rr,n16 is 00 pp 0001; POP is 11 qq 0001
theorem test_word_ld_de_n16 : decode [0b00_01_0001, 0x34, 0x12] = .ok (.ldDeN16 0x1234, []) := by decide
theorem test_word_pop_hl : decode [0b11_10_0001] = .ok (.popHl, []) := by decide
-- ALU o(y) A,r(z) is 10 ooo rrr; ALU A,n8 is 11 ooo 110
theorem test_word_sub_d : decode [0b10_010_010] = .ok (.subAD, []) := by decide
theorem test_word_xor_n8 : decode [0b11_101_110, 0x0F] = .ok (.xorAN8 0x0F, []) := by decide
-- INC r is 00 ddd 100; DEC rr is x = 0, z = 3, q = 1
theorem test_word_inc_l : decode [0b00_101_100] = .ok (.incL, []) := by decide
theorem test_word_dec_sp : decode [0b00_11_1_011] = .ok (.decSp, []) := by decide
-- RRA is x = 0, z = 7, y = 3; RR r, BIT, RES, SET follow the marker
theorem test_word_rra : decode [0b00_011_111] = .ok (.rra, []) := by decide
theorem test_word_rr_e : decode [0xCB, 0b00_011_011] = .ok (.rrE, []) := by decide
theorem test_word_bit_5_l : decode [0xCB, 0b01_101_101] = .ok (.bit5L, []) := by decide
theorem test_word_res_2_hl : decode [0xCB, 0b10_010_110] = .ok (.res2IndHl, []) := by decide
theorem test_word_set_6_a : decode [0xCB, 0b11_110_111] = .ok (.set6A, []) := by decide
-- JP cc is 110 cc 010, CALL cc 110 cc 100, RET cc 110 cc 000, RST 11 ttt 111
theorem test_word_jp_nc : decode [0b110_10_010, 0x50, 0x01] = .ok (.jpNcA16 0x0150, []) := by decide
theorem test_word_call_c : decode [0b110_11_100, 0x00, 0x02] = .ok (.callCA16 0x0200, []) := by decide
theorem test_word_ret_z : decode [0b110_01_000] = .ok (.retZ, []) := by decide
theorem test_word_rst_18 : decode [0b11_011_111] = .ok (.rst18, []) := by decide
-- EI is x = 3, z = 3, y = 7; STOP skips its second byte
theorem test_word_ei : decode [0b11_111_011] = .ok (.ei, []) := by decide
theorem test_word_stop : decode [0b00_010_000, 0xAB, 0x3C] = .ok (.stop, [0x3C]) := by decide
theorem test_word_illegal : decode [0xDD] = .error (.lookupMiss (.plain 0xDD)) := by decide

/-! ### The host's two functions -/

theorem test_tableWord_plain : decodeTableWord 8 0x41 = some .ldBC := by decide
theorem test_tableWord_extended : decodeTableWord 16 0xCB7C = some .bit7H := by decide
theorem test_withFetchWord_plain :
    after (step (State.reset.withFetchWord 8 0x41)) (fun t => (t.b, t.pc)) = some (0x13, 0x0101) := by decide
theorem test_withFetchWord_extended :
    after (step (State.reset.withFetchWord 16 0xCB37)) (fun t => (t.a, t.pc)) = some (0x10, 0x0102) := by decide

/-! ### Vectors of 95_test_vectors.md, one step each -/

/-! #### 41_load8.md -/

theorem test_LD8_1 : after (step { start with cart := code [0x41], c := 0x5A })
    (fun t => (t.b, t.f, t.pc, t.cycles)) = some (0x5A, 0x00, 0x0151, 1) := by decide
theorem test_LD8_4 : after (step { start with cart := code [0x7E], mem := [(0xC010, 0x99)], h := 0xC0, l := 0x10 })
    (fun t => (t.a, t.f, t.pc, t.cycles)) = some (0x99, 0x00, 0x0151, 2) := by decide
theorem test_LD8_5 : after (step { start with cart := code [0x70], b := 0x77, h := 0xC0, l := 0x20 })
    (fun t => (t.byteAt 0xC020, t.f, t.pc, t.cycles)) = some (0x77, 0x00, 0x0151, 2) := by decide
theorem test_LD8_6 : after (step { start with cart := code [0x36, 0xAB], h := 0x80 })
    (fun t => (t.byteAt 0x8000, t.f, t.pc, t.cycles)) = some (0xAB, 0x00, 0x0152, 3) := by decide
theorem test_LD8_8 : after (step { start with cart := code [0x1A], mem := [(0xC005, 0x11)], d := 0xE0, e := 0x05 })
    (fun t => (t.a, t.f, t.pc, t.cycles)) = some (0x00, 0x00, 0x0151, 2) := by decide
theorem test_LD8_10 : after (step { start with cart := [(0x150, 0x12), (0x2000, 0xEE)], a := 0x3C, d := 0x20 })
    (fun t => (t.byteAt 0x2000, t.f, t.pc, t.cycles)) = some (0xEE, 0x00, 0x0151, 2) := by decide
theorem test_LD8_11 : after (step { start with cart := code [0xFA, 0xB0, 0xFE], a := 0x12 })
    (fun t => (t.a, t.f, t.pc, t.cycles)) = some (0x00, 0x00, 0x0153, 4) := by decide
theorem test_LD8_12 : after (step { start with cart := code [0xEA, 0xFF, 0xFF], a := 0x1F })
    (fun t => (t.ieReg, t.f, t.pc, t.cycles)) = some (0x1F, 0x00, 0x0153, 4) := by decide
theorem test_LD8_13 : after (step { start with cart := code [0xF0] })
    (fun t => (t.a, t.f, t.pc, t.cycles)) = some (0xFF, 0x00, 0x0152, 3) := by decide
theorem test_LD8_14 : after (step { start with cart := code [0xE0, 0x50], a := 0x01 })
    (fun t => (t.bootLatch, t.byteAt 0xFF50, t.f, t.pc, t.cycles)) = some (true, 0x01, 0x00, 0x0152, 3) := by decide
theorem test_LD8_16 : after (step { start with cart := code [0xE2], a := 0x9C, c := 0x85 })
    (fun t => (t.byteAt 0xFF85, t.f, t.pc, t.cycles)) = some (0x9C, 0x00, 0x0151, 2) := by decide
theorem test_LD8_18 : after (step { start with cart := code [0x22], a := 0x01, h := 0xFF, l := 0xFF })
    (fun t => (t.h, t.l, t.f, t.pc, t.cycles)) = some (0x00, 0x00, 0x00, 0x0151, 2) := by decide
theorem test_LD8_20 : after (step { start with cart := code [0x32], a := 0x5F, h := 0xC1 })
    (fun t => (t.byteAt 0xC100, t.h, t.l, t.f, t.pc, t.cycles)) = some (0x5F, 0xC0, 0xFF, 0x00, 0x0151, 2) := by decide
theorem test_LD8_21 : step { start with cart := code [0x3A] } = .fault (.biosAbsent 0x0000) := rfl

/-! #### 42_load16.md -/

theorem test_LD16_2 : after (step { start with cart := code [0x21, 0x34, 0x12] })
    (fun t => (t.h, t.l, t.f, t.pc, t.cycles)) = some (0x12, 0x34, 0x00, 0x0153, 3) := by decide
theorem test_LD16_4 : after (step { start with cart := code [0x08, 0xFF, 0xFF], sp := 0x1234 })
    (fun t => (t.ieReg, t.f, t.pc, t.cycles)) = some (0x34, 0x00, 0x0153, 5) := by decide
theorem test_LD16_5 : after (step { start with cart := code [0xF9], h := 0xDF, l := 0xF0 })
    (fun t => (t.sp, t.f, t.pc, t.cycles)) = some (0xDFF0, 0x00, 0x0151, 2) := by decide
theorem test_LD16_7 : after (step { start with cart := code [0xF8, 0xFF], sp := 0x0001 })
    (fun t => (t.h, t.l, t.f, t.pc, t.cycles)) = some (0x00, 0x00, 0x30, 0x0152, 3) := by decide
theorem test_LD16_10 : after (step { start with cart := code [0xF5], sp := 0xE000, f := 0xB0, a := 0x12 })
    (fun t => (t.sp, t.byteAt 0xDFFF, t.byteAt 0xDFFE, t.f, t.pc, t.cycles)) =
      some (0xDFFE, 0x12, 0xB0, 0xB0, 0x0151, 4) := by decide
theorem test_LD16_11 :
    after (step { start with cart := code [0xF1], mem := [(0xC000, 0xFF), (0xC001, 0x77)], sp := 0xC000 })
    (fun t => (t.a, t.f, t.sp, t.f, t.pc, t.cycles)) = some (0x77, 0xF0, 0xC002, 0xF0, 0x0151, 3) := by decide
theorem test_LD16_13 : after (step { start with cart := code [0xD5], sp := 0x0000, d := 0xAB, e := 0xCD })
    (fun t => (t.sp, t.ieReg, t.byteAt 0xFFFE, t.f, t.pc, t.cycles)) =
      some (0xFFFE, 0xAB, 0x00, 0x00, 0x0151, 4) := by decide

/-! #### 43_alu8.md -/

theorem test_ALU8_1 : after (step { start with cart := code [0x80], a := 0x3A, b := 0xC6 })
    (fun t => (t.a, t.f, t.pc, t.cycles)) = some (0x00, 0xB0, 0x0151, 1) := by decide
theorem test_ALU8_5 : after (step { start with cart := code [0xCE, 0xFF], f := 0x10 })
    (fun t => (t.a, t.f, t.pc, t.cycles)) = some (0x00, 0xB0, 0x0152, 2) := by decide
theorem test_ALU8_8 : after (step { start with cart := code [0xD6, 0x0F], a := 0x3E })
    (fun t => (t.a, t.f, t.pc, t.cycles)) = some (0x2F, 0x60, 0x0152, 2) := by decide
theorem test_ALU8_11 : after (step { start with cart := code [0xDE], f := 0x10 })
    (fun t => (t.a, t.f, t.pc, t.cycles)) = some (0xFF, 0x70, 0x0152, 2) := by decide
theorem test_ALU8_12 : after (step { start with cart := code [0xE6, 0x38], a := 0x5A })
    (fun t => (t.a, t.f, t.pc, t.cycles)) = some (0x18, 0x20, 0x0152, 2) := by decide
theorem test_ALU8_14 : after (step { start with cart := code [0xAF], f := 0x70, a := 0xFF })
    (fun t => (t.a, t.f, t.pc, t.cycles)) = some (0x00, 0x80, 0x0151, 1) := by decide
theorem test_ALU8_15 : after (step { start with cart := code [0xB6], mem := [(0xC000, 0x0F)], a := 0x5A, h := 0xC0 })
    (fun t => (t.a, t.f, t.pc, t.cycles)) = some (0x5F, 0x00, 0x0151, 2) := by decide
theorem test_ALU8_17 : after (step { start with cart := code [0xFE, 0x40], a := 0x3C })
    (fun t => (t.a, t.f, t.pc, t.cycles)) = some (0x3C, 0x50, 0x0152, 2) := by decide
theorem test_ALU8_18 : after (step { start with cart := code [0x3C], f := 0x10, a := 0xFF })
    (fun t => (t.a, t.f, t.pc, t.cycles)) = some (0x00, 0xB0, 0x0151, 1) := by decide
theorem test_ALU8_20 : after (step { start with cart := code [0x34], mem := [(0xC000, 0x4F)], h := 0xC0 })
    (fun t => (t.byteAt 0xC000, t.f, t.pc, t.cycles)) = some (0x50, 0x20, 0x0151, 3) := by decide
theorem test_ALU8_22 : after (step { start with cart := code [0x15], f := 0x10, d := 0x10 })
    (fun t => (t.d, t.f, t.pc, t.cycles)) = some (0x0F, 0x70, 0x0151, 1) := by decide
theorem test_ALU8_23 : after (step { start with cart := code [0x35], h := 0xC0 })
    (fun t => (t.byteAt 0xC000, t.f, t.pc, t.cycles)) = some (0xFF, 0x60, 0x0151, 3) := by decide
theorem test_ALU8_25 : after (step { start with cart := code [0x27], a := 0x9A })
    (fun t => (t.a, t.f, t.pc, t.cycles)) = some (0x00, 0x90, 0x0151, 1) := by decide
theorem test_ALU8_27 : after (step { start with cart := code [0x27], f := 0x70, a := 0xFA })
    (fun t => (t.a, t.f, t.pc, t.cycles)) = some (0x94, 0x50, 0x0151, 1) := by decide
theorem test_ALU8_29 : after (step { start with cart := code [0x2F], f := 0x80, a := 0x35 })
    (fun t => (t.a, t.f, t.pc, t.cycles)) = some (0xCA, 0xE0, 0x0151, 1) := by decide
theorem test_ALU8_30 : after (step { start with cart := code [0x37], f := 0xE0 })
    (fun t => (t.f, t.pc, t.cycles)) = some (0x90, 0x0151, 1) := by decide
theorem test_ALU8_31 : after (step { start with cart := code [0x3F], f := 0x70 })
    (fun t => (t.f, t.pc, t.cycles)) = some (0x00, 0x0151, 1) := by decide

/-! #### 44_alu16.md -/

theorem test_ALU16_2 : after (step { start with cart := code [0x29], f := 0x80, h := 0x8A, l := 0x23 })
    (fun t => (t.h, t.l, t.f, t.pc, t.cycles)) = some (0x14, 0x46, 0xB0, 0x0151, 2) := by decide
theorem test_ALU16_4 : after (step { start with cart := code [0x13], f := 0xF0, d := 0xFF, e := 0xFF })
    (fun t => (t.d, t.e, t.f, t.pc, t.cycles)) = some (0x00, 0x00, 0xF0, 0x0151, 2) := by decide
theorem test_ALU16_5 : after (step { start with cart := code [0x3B], sp := 0x0000 })
    (fun t => (t.sp, t.f, t.pc, t.cycles)) = some (0xFFFF, 0x00, 0x0151, 2) := by decide
theorem test_ALU16_9 : after (step { start with cart := code [0xE8, 0x80], sp := 0xC000, f := 0xF0 })
    (fun t => (t.sp, t.f, t.pc, t.cycles)) = some (0xBF80, 0x00, 0x0152, 4) := by decide

/-! #### 45_rotate_shift_bit.md -/

theorem test_ROT_2 : after (step { start with cart := code [0x07], f := 0x80 })
    (fun t => (t.a, t.f, t.pc, t.cycles)) = some (0x00, 0x00, 0x0151, 1) := by decide
theorem test_ROT_3 : after (step { start with cart := code [0x0F], a := 0x01 })
    (fun t => (t.a, t.f, t.pc, t.cycles)) = some (0x80, 0x10, 0x0151, 1) := by decide
theorem test_ROT_4 : after (step { start with cart := code [0x17], f := 0x10, a := 0x95 })
    (fun t => (t.a, t.f, t.pc, t.cycles)) = some (0x2B, 0x10, 0x0151, 1) := by decide
theorem test_ROT_5 : after (step { start with cart := code [0x1F], a := 0x81 })
    (fun t => (t.a, t.f, t.pc, t.cycles)) = some (0x40, 0x10, 0x0151, 1) := by decide
theorem test_ROT_7 : after (step { start with cart := code [0xCB, 0x06], h := 0xC0 })
    (fun t => (t.byteAt 0xC000, t.f, t.pc, t.cycles)) = some (0x00, 0x80, 0x0152, 4) := by decide
theorem test_ROT_8 : after (step { start with cart := code [0xCB, 0x09], c := 0x01 })
    (fun t => (t.c, t.f, t.pc, t.cycles)) = some (0x80, 0x10, 0x0152, 2) := by decide
theorem test_ROT_9 : after (step { start with cart := code [0xCB, 0x12], f := 0x10, d := 0x80 })
    (fun t => (t.d, t.f, t.pc, t.cycles)) = some (0x01, 0x10, 0x0152, 2) := by decide
theorem test_ROT_11 : after (step { start with cart := code [0xCB, 0x1C], h := 0x01 })
    (fun t => (t.h, t.f, t.pc, t.cycles)) = some (0x00, 0x90, 0x0152, 2) := by decide
theorem test_ROT_12 : after (step { start with cart := code [0xCB, 0x25], l := 0x80 })
    (fun t => (t.l, t.f, t.pc, t.cycles)) = some (0x00, 0x90, 0x0152, 2) := by decide
theorem test_ROT_13 : after (step { start with cart := code [0xCB, 0x2F], a := 0x81 })
    (fun t => (t.a, t.f, t.pc, t.cycles)) = some (0xC0, 0x10, 0x0152, 2) := by decide
theorem test_ROT_14 : after (step { start with cart := code [0xCB, 0x37], f := 0x10, a := 0xF0 })
    (fun t => (t.a, t.f, t.pc, t.cycles)) = some (0x0F, 0x00, 0x0152, 2) := by decide
theorem test_ROT_16 : after (step { start with cart := code [0xCB, 0x3F], a := 0x01 })
    (fun t => (t.a, t.f, t.pc, t.cycles)) = some (0x00, 0x90, 0x0152, 2) := by decide
theorem test_ROT_19 :
    after (step { start with cart := code [0xCB, 0x46], mem := [(0xC000, 0xFE)], f := 0x40, h := 0xC0 })
    (fun t => (t.byteAt 0xC000, t.f, t.pc, t.cycles)) = some (0xFE, 0xA0, 0x0152, 3) := by decide
theorem test_ROT_20 : after (step { start with cart := code [0xCB, 0x9F], f := 0xF0, a := 0xFF })
    (fun t => (t.a, t.f, t.pc, t.cycles)) = some (0xF7, 0xF0, 0x0152, 2) := by decide
theorem test_ROT_21 : after (step { start with cart := code [0xCB, 0xFE], mem := [(0xC000, 0x01)], h := 0xC0 })
    (fun t => (t.byteAt 0xC000, t.f, t.pc, t.cycles)) = some (0x81, 0x00, 0x0152, 4) := by decide

/-! #### 46_control.md -/

theorem test_CTL_1 : after (step { start with cart := code [0xC3, 0x00, 0x02] })
    (fun t => (t.f, t.pc, t.cycles)) = some (0x00, 0x0200, 4) := by decide
theorem test_CTL_2 : after (step { start with cart := code [0xC2, 0x00, 0x02], f := 0x80 })
    (fun t => (t.f, t.pc, t.cycles)) = some (0x80, 0x0153, 3) := by decide
theorem test_CTL_4 : after (step { start with cart := code [0xDA, 0x34, 0x12], f := 0x10 })
    (fun t => (t.f, t.pc, t.cycles)) = some (0x10, 0x1234, 4) := by decide
theorem test_CTL_5 : after (step { start with cart := code [0xE9], h := 0xC0 })
    (fun t => (t.f, t.pc, t.cycles)) = some (0x00, 0xC000, 1) := by decide
theorem test_CTL_9 : after (step { start with cart := code [0x18, 0x80] })
    (fun t => (t.f, t.pc, t.cycles)) = some (0x00, 0x00D2, 3) := by decide
theorem test_CTL_10 : after (step { start with cart := code [0x20, 0xFB] })
    (fun t => (t.f, t.pc, t.cycles)) = some (0x00, 0x014D, 3) := by decide
theorem test_CTL_13 : after (step { start with cart := code [0xCD, 0x00, 0x02] })
    (fun t => (t.sp, t.byteAt 0xFFFD, t.byteAt 0xFFFC, t.f, t.pc, t.cycles)) =
      some (0xFFFC, 0x01, 0x53, 0x00, 0x0200, 6) := by decide
theorem test_CTL_14 : after (step { start with cart := code [0xD4, 0x00, 0x02], f := 0x10 })
    (fun t => (t.sp, t.f, t.pc, t.cycles)) = some (0xFFFE, 0x10, 0x0153, 3) := by decide
theorem test_CTL_16 :
    after (step { start with cart := code [0xC9], mem := [(0xFFFC, 0x53), (0xFFFD, 0x01)], sp := 0xFFFC })
    (fun t => (t.sp, t.f, t.pc, t.cycles)) = some (0xFFFE, 0x00, 0x0153, 4) := by decide
theorem test_CTL_17 :
    after (step { start with cart := code [0xC8], mem := [(0xFFFC, 0x53), (0xFFFD, 0x01)], sp := 0xFFFC, f := 0x80 })
    (fun t => (t.sp, t.f, t.pc, t.cycles)) = some (0xFFFE, 0x80, 0x0153, 5) := by decide
theorem test_CTL_18 :
    after (step { start with cart := code [0xC0], mem := [(0xFFFC, 0x53), (0xFFFD, 0x01)], sp := 0xFFFC, f := 0x80 })
    (fun t => (t.sp, t.f, t.pc, t.cycles)) = some (0xFFFC, 0x80, 0x0151, 2) := by decide
theorem test_CTL_19 :
    after (step { start with cart := code [0xD9], mem := [(0xFFFC, 0x53), (0xFFFD, 0x01)], sp := 0xFFFC, ime := false })
    (fun t => (t.sp, t.ime, t.f, t.pc, t.cycles)) = some (0xFFFE, true, 0x00, 0x0153, 4) := by decide
theorem test_CTL_20 : after (step { start with cart := code [0xEF] })
    (fun t => (t.sp, t.byteAt 0xFFFD, t.byteAt 0xFFFC, t.f, t.pc, t.cycles)) =
      some (0xFFFC, 0x01, 0x51, 0x00, 0x0028, 4) := by decide

/-! #### 47_system.md -/

theorem test_SYS_1 : after (step { start with cart := code [0x00] })
    (fun t => (t.f, t.pc, t.cycles)) = some (0x00, 0x0151, 1) := by decide
theorem test_SYS_2 : after (step { start with cart := code [0x76] })
    (fun t => (t.halted, t.f, t.pc, t.cycles)) = some (true, 0x00, 0x0151, 1) := by decide
theorem test_SYS_3 : after (step { start with cart := code [0x10] })
    (fun t => (t.stopped, t.f, t.pc, t.cycles)) = some (true, 0x00, 0x0152, 1) := by decide
theorem test_SYS_4 : after (step { start with cart := code [0xF3], ime := true })
    (fun t => (t.ime, t.f, t.pc, t.cycles)) = some (false, 0x00, 0x0151, 1) := by decide
theorem test_SYS_5 : after (step { start with cart := code [0xFB], ime := false })
    (fun t => (t.ime, t.eiDelay, t.f, t.pc, t.cycles)) = some (false, true, 0x00, 0x0151, 1) := by decide

/-! #### 20_memory.md, 30_encoding.md and 60_exceptions.md -/

theorem test_BUS_1 : busRead 0x0050 { start with bios := some [(0x50, 0x31)], cart := [(0x50, 0xC3)] } =
    .ok (0x31, { start with bios := some [(0x50, 0x31)], cart := [(0x50, 0xC3)] }) := by decide
theorem test_BUS_2 : busAfter (busWrite 0xFF50 0x00 { start with bios := some [(0x50, 0x31)], cart := [(0x50, 0xC3)] })
    (fun t => (t.byteAt 0x0050, t.bootLatch)) = some (0xC3, true) := by decide
theorem test_BUS_11 : busAfter (busWrite 0xFF0F 0xE1 start) (fun t => (t.byteAt 0xFF0F, t.mem.read 0xFF0F)) =
    some (0xE1, 0x00) := by decide
theorem test_BUS_12 : busAfter (busWrite 0xFF00 0x20 start)
    (fun t => (t.byteAt 0xFF00, t.keypadStub, t.mem.read 0xFF00)) = some (0xFF, 0x20, 0x20) := by decide
theorem test_BUS_13 : busAfter (busWrite 0xFF47 0xE4 start) (fun t => (t.byteAt 0xFF47, t.gpu.bgpal)) =
    some (0xE4, 0xE4) := by decide
theorem test_WORD_2 : busAfter (memWrite16 0xC010 0x1234 start) (fun t => (t.byteAt 0xC010, t.byteAt 0xC011)) =
    some (0x34, 0x12) := by decide
theorem test_WORD_4 : busAfter (memWrite16 0x7FFF 0x5566 start) (fun t => (t.byteAt 0x7FFF, t.byteAt 0x8000)) =
    some (0x00, 0x55) := by decide
theorem test_DMA_3 : busWrite 0xFF46 0x00 start = .error (.fault (.biosAbsent 0x0000)) := by decide
theorem test_STEP_1 : step { start with cart := code [0xE3] } = .fault (.lookupMiss (.plain 0xE3)) := rfl
theorem test_STEP_3 : after (step { start with cart := [(0x7FFF, 0xCB)], mem := [(0x8000, 0x37)], pc := 0x7FFF, a := 0x12 })
    (fun t => (t.a, t.pc)) = some (0x21, 0x8001) := by decide
theorem test_STEP_4 : after (step { start with pc := 0xFFFF }) (fun t => t.pc) = some 0x0000 := by decide
/-- R145, R362, R405: STOP at 0xFFFF with no BIOS runs, its second byte at 0x0000 being read by nothing. -/
theorem test_STOP_secondByteNotRead : after (step { start with pc := 0xFFFF, ieReg := 0x10 })
    (fun t => (t.stopped, t.pc, t.cycles)) = some (true, 0x0001, 1) := by decide
theorem test_STEP_7 : after (step { start with cart := code [0xFB], eiDelay := true }) (fun t => (t.ime, t.eiDelay)) =
    some (true, false) := by decide
theorem test_INT_1 :
    after (step { start with config := sm83, ime := true, ieReg := 0x1F, ifReg := 0x1A, sp := 0xD000, pc := 0x0100 })
      (fun t => (t.ifReg, t.ime, t.byteAt 0xCFFF, t.sp, t.pc, t.cycles)) =
      some (0x18, false, 0x01, 0xCFFE, 0x0048, 5) := by decide
theorem test_INT_3 : after (step { start with config := sm83, ime := true, ieReg := 0xE0, ifReg := 0xE0 })
    (fun t => (t.ifReg, t.pc)) = some (0xE0, 0x0151) := by decide
theorem test_INT_4 : after (step { start with config := sm83, halted := true, ieReg := 0x01, ifReg := 0x01 })
    (fun t => (t.halted, t.pc, t.cycles)) = some (false, 0x0151, 1) := by decide
theorem test_INT_5 : step { start with config := sm83, cart := code [0x76], ieReg := 0x01, ifReg := 0x01 } =
    .refused .haltBug := rfl
theorem test_INT_6 : endsHalted { start with config := sm83, stopped := true, ieReg := 0x01, ifReg := 0x01 } = true := by
  decide

/-! ### Witnesses: for each obligation with hypotheses, a state and operands that meet them -/

/-- GPU memory at both ends of its two stores. -/
def Sys2Proof.Tests.gpuCells : Memory := [(0x8000, 0x11), (0x9FFF, 0x22), (0xFE00, 0x33), (0xFE9F, 0x44)]

theorem test_witness_LaunchProfileValues :
    (∀ c ∈ gpuCells, gpuCell c.1 = true) ∧
      (State.atLaunch .reference .biosBoot [] (some []) State.reset.gpu gpuCells).pc = 0x0000 ∧
      (State.atLaunch .reference .postBoot [] none State.reset.gpu gpuCells).a = 0x01 ∧
      (State.atLaunch .reference (.free { InitProfile.postBoot.regs with b := 0x77 }) [] none State.reset.gpu gpuCells).b =
        0x77 := by decide

theorem test_witness_LaunchAcceptsOnlyWellFormedStates :
    State.reset.mem.wf = true ∧ State.launch State.reset = .next State.reset ∧
      Memory.wf [(0xFFFD, 0x01)] = true ∧
      State.launch { State.reset with mem := [(0xFFFD, 0x01)] } = .refused .malformedLaunch := by
  split_ands <;> first | decide | rfl

/-- A state with a distinct byte at each end of each row of the routing table. -/
def Sys2Proof.Tests.mapped : State :=
  { State.reset with
    cart := [(0x0000, 0x21), (0x00FF, 0x01), (0x0100, 0x02), (0x7FFF, 0x03)]
    mem := [(0x8000, 0x04), (0x9FFF, 0x05), (0xA000, 0x06), (0xBFFF, 0x07), (0xC000, 0x08), (0xDFFF, 0x09), (0xE000, 0x0A),
      (0xFDFE, 0x0B), (0xFDFF, 0x0C), (0xFE00, 0x0D), (0xFE9E, 0x0E), (0xFE9F, 0x0F), (0xFF01, 0x10), (0xFF7E, 0x11),
      (0xFF7F, 0x12), (0xFF80, 0x13), (0xFFFD, 0x14), (0xFFFE, 0x15)]
    ifReg := 0x16, ieReg := 0x17, gpu := { lcdc := 0x18, scrollX := 0x19, scrollY := 0x1A, bgpal := 0x1B } }

theorem test_witness_referenceMap : mapped.config.mapVariant = .asDocumented ∧ mapped.config.echoMode = .separate ∧
    mapped.config.lcdcReadback = .stored ∧ mapped.config.taps = .reference := ⟨rfl, rfl, rfl, rfl⟩

theorem test_witness_BusReadRouting_stores :
    mapped.byteAt 0x0100 = 0x02 ∧ mapped.byteAt 0x7FFF = 0x03 ∧ mapped.byteAt 0x8000 = 0x04 ∧ mapped.byteAt 0x9FFF = 0x05 ∧
    mapped.byteAt 0xA000 = 0x06 ∧ mapped.byteAt 0xBFFF = 0x07 ∧ mapped.byteAt 0xC000 = 0x08 ∧ mapped.byteAt 0xDFFF = 0x09 ∧
    mapped.byteAt 0xE000 = 0x0A ∧ mapped.byteAt 0xFDFE = 0x0B ∧ mapped.byteAt 0xFDFF = 0x00 ∧ mapped.byteAt 0xFE00 = 0x0D ∧
    mapped.byteAt 0xFE9E = 0x0E ∧ mapped.byteAt 0xFE9F = 0x00 ∧ mapped.byteAt 0xFEA0 = 0x00 ∧ mapped.byteAt 0xFEFE = 0x00 ∧
    mapped.byteAt 0xFEFF = 0x00 ∧ mapped.byteAt 0xFF01 = 0x10 ∧ mapped.byteAt 0xFF7E = 0x11 ∧ mapped.byteAt 0xFF7F = 0x00 ∧
    mapped.byteAt 0xFF80 = 0x13 ∧ mapped.byteAt 0xFFFD = 0x14 ∧ mapped.byteAt 0xFFFE = 0x00 := by
  split_ands <;> decide

theorem test_witness_BusReadRouting_registers :
    mapped.byteAt 0xFF00 = 0xFF ∧ mapped.byteAt 0xFF0F = 0x16 ∧ mapped.byteAt 0xFF40 = 0x18 ∧ mapped.byteAt 0xFF42 = 0x1A ∧
    mapped.byteAt 0xFF43 = 0x19 ∧ mapped.byteAt 0xFFFF = 0x17 ∧
    busRead 0xFF44 mapped = .ok (Config.freeScanline 0, { mapped with draws := 1 }) := by
  split_ands <;> first | decide | rfl

theorem test_witness_BusReadRouting_overlay :
    mapped.peek 0x0000 = .error (.fault (.biosAbsent 0x0000)) ∧ mapped.peek 0x00FF = .error (.fault (.biosAbsent 0x00FF)) ∧
    ({ mapped with bios := some [(0x00, 0x41), (0xFF, 0x42)] } : State).byteAt 0x0000 = 0x41 ∧
    ({ mapped with bios := some [(0x00, 0x41), (0xFF, 0x42)] } : State).byteAt 0x00FF = 0x42 ∧
    ({ mapped with bootLatch := true } : State).byteAt 0x0000 = 0x21 ∧
    ({ mapped with bootLatch := true } : State).byteAt 0x00FF = 0x01 := by
  split_ands <;> decide

theorem test_witness_BusWriteRouting_stores :
    busWrite 0x0000 0x5A mapped = .ok mapped ∧ busWrite 0x7FFF 0x5A mapped = .ok mapped ∧
    busWrite 0xFEA0 0x5A mapped = .ok mapped ∧ busWrite 0xFEFE 0x5A mapped = .ok mapped ∧
    busWrite 0xFDFF 0x5A mapped = .ok mapped ∧ busWrite 0xFE9F 0x5A mapped = .ok mapped ∧
    busWrite 0xFEFF 0x5A mapped = .ok mapped ∧ busWrite 0xFF7F 0x5A mapped = .ok mapped ∧
    busWrite 0xFFFE 0x5A mapped = .ok mapped ∧
    busAfter (busWrite 0x8000 0x5A mapped) (fun t => t.mem.read 0x8000) = some 0x5A ∧
    busAfter (busWrite 0xBFFF 0x5A mapped) (fun t => t.mem.read 0xBFFF) = some 0x5A ∧
    busAfter (busWrite 0xDFFF 0x5A mapped) (fun t => t.mem.read 0xDFFF) = some 0x5A ∧
    busAfter (busWrite 0xE000 0x5A mapped) (fun t => t.mem.read 0xE000) = some 0x5A ∧
    busAfter (busWrite 0xFDFE 0x5A mapped) (fun t => t.mem.read 0xFDFE) = some 0x5A ∧
    busAfter (busWrite 0xFE00 0x5A mapped) (fun t => t.mem.read 0xFE00) = some 0x5A ∧
    busAfter (busWrite 0xFE9E 0x5A mapped) (fun t => t.mem.read 0xFE9E) = some 0x5A ∧
    busAfter (busWrite 0xFF01 0x5A mapped) (fun t => t.mem.read 0xFF01) = some 0x5A ∧
    busAfter (busWrite 0xFF44 0x5A mapped) (fun t => t.mem.read 0xFF44) = some 0x5A ∧
    busAfter (busWrite 0xFF7E 0x5A mapped) (fun t => t.mem.read 0xFF7E) = some 0x5A ∧
    busAfter (busWrite 0xFF80 0x5A mapped) (fun t => t.mem.read 0xFF80) = some 0x5A ∧
    busAfter (busWrite 0xFFFD 0x5A mapped) (fun t => t.mem.read 0xFFFD) = some 0x5A := by
  split_ands <;> rfl

theorem test_witness_BusWriteRouting_registers :
    busAfter (busWrite 0xFF0F 0x5A mapped) (fun t => t.ifReg) = some 0x5A ∧
      busAfter (busWrite 0xFFFF 0x5A mapped) (fun t => t.ieReg) = some 0x5A ∧
      busAfter (busWrite 0xFF50 0x00 mapped) (fun t => t.bootLatch) = some true ∧
      busAfter (busWrite 0xFF00 0x5A mapped) (fun t => t.keypadStub) = some 0x5A ∧
      busAfter (busWrite 0xFF40 0x5A mapped) (fun t => t.gpu.lcdc) = some 0x5A ∧
      busAfter (busWrite 0xFF42 0x5A mapped) (fun t => t.gpu.scrollY) = some 0x5A ∧
      busAfter (busWrite 0xFF43 0x5A mapped) (fun t => t.gpu.scrollX) = some 0x5A ∧
      busAfter (busWrite 0xFF47 0x5A mapped) (fun t => t.gpu.bgpal) = some 0x5A := by decide +kernel

/-- The contiguous map (R92). -/
def Sys2Proof.Tests.contiguous : State := { mapped with config := { Config.reference with mapVariant := .contiguous } }

theorem test_witness_ContiguousMapGivesTheFiveAddresses :
    contiguous.config.mapVariant = .contiguous ∧ contiguous.config.echoMode = .separate ∧
      contiguous.config.taps = .reference ∧
      contiguous.byteAt 0xFDFF = 0x0C ∧ contiguous.byteAt 0xFE9F = 0x0F ∧ contiguous.byteAt 0xFF7F = 0x12 ∧
      contiguous.byteAt 0xFFFE = 0x15 ∧ contiguous.byteAt 0xFEFF = 0x00 := by
  split_ands <;> decide

theorem test_witness_EchoRamIsSeparateOrAliased :
    mapped.byteAt 0xE000 = 0x0A ∧
      ({ mapped with config := { Config.reference with echoMode := .aliased } } : State).byteAt 0xE000 = 0x08 ∧
      busAfter (busWrite 0xFDFE 0x5A { mapped with config := { Config.reference with echoMode := .aliased } })
        (fun t => t.byteAt 0xDDFE) = some 0x5A := by decide +kernel

theorem test_witness_BusWriteFrame :
    busAfter (busWrite 0xC000 0x5A mapped) (fun t => t.byteAt 0xC000) = some 0x5A ∧
      ¬ touches mapped.config 0xC000 0xC001 ∧ ¬ touches mapped.config 0xC000 0xFF44 ∧
      busAfter (busWrite 0xFF50 0x01 mapped) (fun t => t.bootLatch) = some true ∧
      ¬ touches mapped.config 0xFF50 0x0100 ∧ ¬ touches mapped.config 0xFF46 0xFE9F := by
  unfold touches
  decide

theorem test_witness_ByteRoundTrip : mapped.mem.wf = true ∧ holdsByte mapped.config 0x8000 ∧ holdsByte mapped.config 0xFDFE ∧
    holdsByte mapped.config 0xFE9E ∧ holdsByte mapped.config 0xFF0F ∧ holdsByte mapped.config 0xFF01 ∧
    holdsByte mapped.config 0xFFFD ∧ holdsByte mapped.config 0xFFFF := by
  refine ⟨by decide, ?_, ?_, ?_, ?_, ?_, ?_, ?_⟩ <;> first | exact trivial | exact ⟨rfl, rfl⟩

/-- The wrap of R102: the write drops the high byte; the read needs the overlay. -/
theorem test_witness_WordRoundTrip_wrap :
    busAfter (memWrite16 0xFFFF 0x1234 mapped) (fun t => (t.ieReg, t.byteAt 0xFFFE)) = some (0x34, 0x00) ∧
      ({ mapped with bootLatch := true } : State).peek 0x0000 = .ok 0x21 ∧
      memRead16 0xFFFF { mapped with bootLatch := true } = .ok (0x2117, { mapped with bootLatch := true }) ∧
      ¬ mapped.readable 0x0000 ∧ memRead16 0xFFFF mapped = .error (.fault (.biosAbsent 0x0000)) := by
  unfold State.readable
  split_ands <;> first | rfl | decide

theorem test_witness_WordRoundTrip : mapped.mem.wf = true ∧ holdsByte mapped.config 0x9FFF ∧
    holdsByte mapped.config (0x9FFF + 1) := ⟨by decide, trivial, trivial⟩

theorem test_witness_DmaCopiesTheSourcePage : mapped.mem.wf = true ∧
    (∀ i, i < 160 → mapped.readable (Word.ofBytes 0xC0 (BitVec.ofNat 8 i))) ∧
    mapped.readDraws (Word.ofBytes 0xC0 0x00) = false ∧ mapped.readDraws (Word.ofBytes 0xC0 0x9F) = false := by
  refine ⟨by decide, ?_, by decide, by decide⟩
  unfold State.readable
  decide +kernel

theorem test_witness_BootDisableTapSetsTheLatch : mapped.config.wellFormed = true ∧
    ({ mapped with bootLatch := true } : State).config.wellFormed = true := by decide

theorem test_witness_EncodeInvertsDecode : decode [0x21, 0x34, 0x12, 0x76] = .ok (.ldHlN16 0x1234, [0x76]) ∧
    decode [0x10, 0xAB, 0x76] = .ok (.stop, [0x76]) ∧ decode [0x10] = .ok (.stop, []) := by decide

/-- PC in the overlay, no BIOS. -/
theorem test_witness_StepFaultsInFetch : ({ start with pc := 0x00FF } : State).runs ∧
    step { start with pc := 0x00FF } = .fault (.biosAbsent 0x00FF) ∧
    ({ start with cart := code [0xCB, 0x7C], config := { Config.reference with removedExt := [0x7C] } } : State).runs ∧
    step { start with cart := code [0xCB, 0x7C], config := { Config.reference with removedExt := [0x7C] } } =
      .fault (.lookupMiss (.extended 0x7C)) ∧
    ({ start with config := { Config.reference with removedPlain := [0x00] } } : State).runs ∧
    step { start with config := { Config.reference with removedPlain := [0x00] } } =
      .fault (.lookupMiss (.plain 0x00)) := by
  unfold State.runs
  split_ands <;> first | decide | rfl

/-- The byte after the prefix, a one-byte immediate and the second byte of a word immediate, each at 0x0000 with no BIOS. -/
theorem test_witness_StepFaultsInFetch_wrap : ({ start with pc := 0xFFFF, ieReg := 0xCB } : State).runs ∧
    ¬ ({ start with pc := 0xFFFF, ieReg := 0xCB } : State).readable 0x0000 ∧
    step { start with pc := 0xFFFF, ieReg := 0xCB } = .fault (.biosAbsent 0x0000) ∧
    immediateBytes 0x3E = 1 ∧ populated start.config (.plain 0x3E) = true ∧
    step { start with pc := 0xFFFF, ieReg := 0x3E } = .fault (.biosAbsent 0x0000) ∧
    immediateBytes 0x21 = 2 ∧ immediateBytes 0x10 = 0 ∧
    ({ contiguous with pc := 0xFFFE, mem := [(0xFFFE, 0x21)] } : State).runs ∧
    ({ contiguous with pc := 0xFFFE, mem := [(0xFFFE, 0x21)] } : State).readable 0xFFFF ∧
    step { contiguous with pc := 0xFFFE, mem := [(0xFFFE, 0x21)] } = .fault (.biosAbsent 0x0000) := by
  unfold State.runs State.readable
  split_ands <;> first | rfl | decide

theorem test_witness_StepRunsTheDecodedInstruction : ({ start with cart := code [0x3E, 0x42] } : State).runs ∧
    readBytes (Instr.ldAN8 0x42).bytesRead 0x0150 { start with cart := code [0x3E, 0x42] } =
      .ok ([0x3E, 0x42], { start with cart := code [0x3E, 0x42] }) ∧
    decode [0x3E, 0x42] = .ok (.ldAN8 0x42, []) ∧ Instr.wellFormed start.config (.ldAN8 0x42) = true := by
  unfold State.runs
  decide

/-! #### Readable and writable operands -/

theorem test_witness_reads : ({ start with h := 0xC0 } : State).readable (Word.ofBytes 0xC0 0x00) ∧ start.readable 0x0100 ∧
    ¬ start.readable 0x00FF ∧ ¬ start.readable start.hl ∧ start.readable start.sp ∧ start.readable (start.sp + 1) ∧
    ¬ ({ start with sp := 0x00FF } : State).readable 0x00FF ∧
    ({ start with bios := some [] } : State).readable 0x0000 ∧ ({ start with bootLatch := true } : State).readable 0x0000 := by
  unfold State.readable
  decide

theorem test_witness_writes : start.writable 0x0000 0x00 ∧ start.writable 0xFF46 0x01 ∧ ¬ start.writable 0xFF46 0x00 ∧
    ({ start with bootLatch := true } : State).writable 0xFF46 0x00 ∧ start.wordWritable (start.sp - 2) 0x0153 ∧
    ¬ ({ start with sp := 0xFF48 } : State).wordWritable 0xFF46 0x0100 := by
  unfold State.wordWritable State.writable
  split_ands <;> decide

theorem test_witness_MemoryLoads : exec .ldBIndHl { start with h := 0x01, l := 0x50, cart := code [0x99] } =
      .next { start with h := 0x01, l := 0x50, cart := code [0x99], b := 0x99, pc := 0x0151, cycles := 2 } ∧
    exec .ldBIndHl start = .fault (.biosAbsent 0x0000) := by
  split_ands <;> first | decide | rfl

theorem test_witness_MemoryStores : exec .ldIndHlB { start with b := 0x77, h := 0xC0 } =
      .next { start with b := 0x77, h := 0xC0, mem := [(0xC000, 0x77)], pc := 0x0151, cycles := 2 } ∧
    exec (.ldhIndA8A 0x46) start = .fault (.biosAbsent 0x0000) := by
  split_ands <;> first | decide | rfl

theorem test_witness_HlMovingLoadsAndStores :
    after (exec .ldIndHlIncA { start with a := 0x01, h := 0xFF, l := 0xFF }) (fun t => (t.ieReg, t.hl)) = some (0x01, 0x0000) ∧
      after (exec .ldAIndHlDec { start with h := 0x01, l := 0x00 }) (fun t => t.hl) = some 0x00FF ∧
      exec .ldAIndHlInc start = .fault (.biosAbsent 0x0000) ∧
      exec .ldIndHlDecA { start with h := 0xFF, l := 0x46 } = .fault (.biosAbsent 0x0000) := by
  split_ands <;> first | decide | rfl

theorem test_witness_WordStoresAndPush :
    after (exec (.ldIndA16Sp 0xFFFF) { start with sp := 0x1234 }) (fun t => (t.ieReg, t.pc)) = some (0x34, 0x0153) ∧
      after (exec .pushBc { start with b := 0x12, c := 0x34 }) (fun t => (t.byteAt 0xFFFD, t.byteAt 0xFFFC)) =
        some (0x12, 0x34) := by decide

theorem test_witness_PopReadsAWordAndMovesSp : ({ start with sp := 0xC000 } : State).readable 0xC000 ∧
    ({ start with sp := 0xC000 } : State).readable 0xC001 ∧
    after (exec .popAf { start with sp := 0xC000, mem := [(0xC000, 0xFF), (0xC001, 0x77)] }) (fun t => (t.a, t.f, t.sp)) =
      some (0x77, 0xF0, 0xC002) := by
  unfold State.readable
  decide

/-! #### Arithmetic -/

theorem test_witness_AluSources : start.sourceByte (.reg .b) = .ok 0x00 ∧ start.sourceByte (.imm 0xFF) = .ok 0xFF ∧
    ({ start with h := 0xC0, mem := [(0xC000, 0x0F)] } : State).sourceByte .indHl = .ok 0x0F ∧
    after (exec (Instr.alu .adc (.imm 0xFF)) { start with f := 0x10 }) (fun t => (t.a, t.f)) = some (0x00, 0xB0) ∧
    after (exec (Instr.alu .sbc .indHl) { start with h := 0xC0, mem := [(0xC000, 0xFF)], f := 0x10 }) (fun t => (t.a, t.f)) =
      some (0x00, 0xF0) ∧
    after (exec (Instr.alu .or (.reg .b)) start) (fun t => (t.a, t.f)) = some (0x00, 0x80) := by decide

theorem test_witness_IncAndDecOfMemory : ({ start with h := 0xC0 } : State).peek (0xC000) = .ok 0x00 ∧
    ({ start with h := 0xC0 } : State).writable 0xC000 0x01 ∧ ({ start with h := 0xC0 } : State).writable 0xC000 0xFF ∧
    after (exec .incIndHl { start with h := 0xC0, mem := [(0xC000, 0xFF)] }) (fun t => (t.byteAt 0xC000, t.f)) =
      some (0x00, 0xA0) ∧
    after (exec .decIndHl { start with h := 0xC0 }) (fun t => (t.byteAt 0xC000, t.f)) = some (0xFF, 0x60) := by
  unfold State.writable
  decide

theorem test_witness_DaaResultAndFlags :
    after (exec .daa { start with a := 0x9A }) (fun t => (t.a, t.f)) = some (0x00, 0x90) ∧
      after (exec .daa { start with a := 0xFA, f := 0x70 }) (fun t => (t.a, t.f)) = some (0x94, 0x50) := by decide

/-- 99 + 99 = 198 and 0 - 1 = 99 with a borrow. -/
theorem test_witness_DaaAdjustsBcdSumsAndDifferences :
    ({ start with a := 0x99 } : State).sourceByte (.imm 0x99) = .ok 0x99 ∧ start.sourceByte (.imm 0x01) = .ok 0x01 ∧
      after (exec .daa { start with a := 0x32, f := 0x30 }) (fun t => (t.a, t.flagCy)) = some (0x98, true) ∧
      after (exec .daa { start with a := 0xFF, f := 0x70 }) (fun t => (t.a, t.flagCy)) = some (0x99, true) := by decide

/-! #### Shifts and bits -/

theorem test_witness_AccumulatorRotates :
    after (exec .rlca { start with f := 0x80 }) (fun t => (t.a, t.f)) = some (0x00, 0x00) ∧
      after (exec .rra { start with a := 0x81 }) (fun t => (t.a, t.f)) = some (0x40, 0x10) := by decide

theorem test_witness_RotatesAndShifts :
    ({ start with h := 0xC0, mem := [(0xC000, 0x81)] } : State).peek 0xC000 = .ok 0x81 ∧
      ({ start with h := 0xC0, mem := [(0xC000, 0x81)] } : State).writable 0xC000 0xC0 ∧
      (0xC0 : Byte).toNat = (shiftResult .sra (0x81 : Byte).toNat false).1 ∧
      after (exec .sraIndHl { start with h := 0xC0, mem := [(0xC000, 0x81)] }) (fun t => (t.byteAt 0xC000, t.f, t.cycles)) =
        some (0xC0, 0x10, 4) := by
  unfold State.writable
  decide

theorem test_witness_ResAndSet :
    (0x01 : Byte) = 0x81 &&& ~~~(1#8 <<< bitNumber .b7) ∧ (0x85 : Byte) = 0x81 ||| 1#8 <<< bitNumber .b2 ∧
      after (exec .res7IndHl { start with h := 0xC0, mem := [(0xC000, 0x81)] }) (fun t => t.byteAt 0xC000) = some 0x01 ∧
      after (exec .set2IndHl { start with h := 0xC0, mem := [(0xC000, 0x81)] }) (fun t => t.byteAt 0xC000) = some 0x85 := by
  decide

/-- HL at the DMA tap: the value written is the source page, and page 0 is the absent BIOS. -/
theorem test_witness_ModifyFaults :
    ({ start with h := 0xFF, l := 0x46, mem := [(0xFF46, 0x01)] } : State).peek 0xFF46 = .ok 0x01 ∧
      ¬ ({ start with h := 0xFF, l := 0x46, mem := [(0xFF46, 0x01)] } : State).writable 0xFF46 0x00 ∧
      exec .res0IndHl { start with h := 0xFF, l := 0x46, mem := [(0xFF46, 0x01)] } = .fault (.biosAbsent 0x0000) ∧
      exec .srlIndHl { start with h := 0xFF, l := 0x46, mem := [(0xFF46, 0x01)] } = .fault (.biosAbsent 0x0000) ∧
      exec .decIndHl { start with h := 0xFF, l := 0x46, mem := [(0xFF46, 0x01)] } = .fault (.biosAbsent 0x0000) := by
  unfold State.writable
  split_ands <;> first | decide | rfl

theorem test_witness_BitTests : start.operandByte (.reg .h) = .ok 0x00 ∧
    ({ start with h := 0xC0, mem := [(0xC000, 0xFE)] } : State).operandByte .indHl = .ok 0xFE ∧
    after (exec .bit0IndHl { start with h := 0xC0, mem := [(0xC000, 0xFE)], f := 0x40 }) (fun t => (t.f, t.cycles)) =
      some (0xA0, 3) := by decide

/-! #### Control transfer -/

theorem test_witness_conditions : condHolds .nz start ∧ ¬ condHolds .z start ∧ condHolds .nc start ∧ ¬ condHolds .c start ∧
    condHolds .z { start with f := 0x80 } ∧ condHolds .c { start with f := 0x10 } := by
  unfold condHolds
  decide

/-- JR to its own address, and across the end of the address space (R334). -/
theorem test_witness_RelativeJumps :
    (((0x0150 : Word).toNat : Int) = ((start.pc.toNat : Int) + 2 + (0xFE : Byte).toInt) % 65536) ∧
      (((0x0012 : Word).toNat : Int) = (((0xFFF0 : Word).toNat : Int) + 2 + (0x20 : Byte).toInt) % 65536) ∧
      after (exec (.jrE8 0x20) { start with pc := 0xFFF0 }) (fun t => t.pc) = some 0x0012 := by decide

theorem test_witness_CallsAndRestarts : start.wordWritable (start.sp - 2) (start.pc + 3) ∧
    start.wordWritable (start.sp - 2) (start.pc + 1) ∧
    after (exec (.callA16 0x0200) start) (fun t => (t.sp, t.byteAt 0xFFFD, t.byteAt 0xFFFC, t.pc)) =
      some (0xFFFC, 0x01, 0x53, 0x0200) := by
  unfold State.wordWritable State.writable
  split_ands <;> decide

theorem test_witness_Returns : ({ start with sp := 0xFFFC } : State).readable 0xFFFC ∧
    ({ start with sp := 0xFFFC } : State).readable 0xFFFD ∧
    after (exec .retZ { start with sp := 0xFFFC, mem := [(0xFFFC, 0x53), (0xFFFD, 0x01)], f := 0x80 })
      (fun t => (t.pc, t.sp, t.cycles)) = some (0x0153, 0xFFFE, 5) ∧
    after (exec .retZ { start with sp := 0xFFFC }) (fun t => (t.pc, t.sp, t.cycles)) = some (0x0151, 0xFFFC, 2) := by
  unfold State.readable
  decide

/-! #### System instructions, interrupts and the step -/

theorem test_witness_HaltAndStop : start.config.haltModel = .stop ∧ start.config.interruptModel ≠ .sm83 ∧
    exec .halt { start with config := sm83, ieReg := 0x01, ifReg := 0x1F } = .refused .haltBug ∧
    exec .stop { start with config := { Config.reference with haltModel := .nop } } =
      .next { start with config := { Config.reference with haltModel := .nop }, pc := 0x0152, cycles := 1 } := by
  split_ands <;> first | decide | rfl

theorem test_witness_NoInterruptUnlessEnabledAndPending :
    ({ start with ime := true, ieReg := 0x1F, ifReg := 0x1F } : State).config.interruptModel = .none ∧
      after (step { start with ime := true, ieReg := 0x1F, ifReg := 0x1F }) (fun t => (t.pc, t.ifReg)) =
        some (0x0151, 0x1F) ∧
      step { start with halted := true } = .next { start with halted := true } := by
  split_ands <;> first | decide | rfl

/-- Under sm83: requests in bits 5 to 7 only, and an enabled request with IME = 0. -/
theorem test_witness_NoInterruptUnlessEnabledAndPending_sm83 :
    ((0xE1 : Byte) &&& 0xFE &&& 0x1F = 0) ∧
      after (step { start with config := sm83, ime := true, ieReg := 0xE1, ifReg := 0xFE }) (fun t => (t.pc, t.ifReg, t.ime)) =
        some (0x0151, 0xFE, true) ∧
      ((0x01 : Byte) &&& 0x01 &&& 0x1F ≠ 0) ∧ start.ime = false ∧ start.halted = false ∧
      after (step { start with config := sm83, ieReg := 0x01, ifReg := 0x01 }) (fun t => (t.pc, t.ifReg)) =
        some (0x0151, 0x01) := by decide

theorem test_witness_InterruptEntry_first :
    ((0x1F : Byte) &&& 0x1F).getLsbD 0 = true ∧ start.wordWritable (start.sp - 2) start.pc ∧
      after (step { start with config := sm83, ime := true, halted := true, ieReg := 0x1F, ifReg := 0x1F })
        (fun t => (t.ifReg, t.pc, t.halted, t.cycles)) = some (0x1E, 0x0040, false, 5) := by
  unfold State.wordWritable State.writable
  decide

theorem test_witness_InterruptEntry_last :
    ((0xF0 : Byte) &&& 0xF0).getLsbD 4 = true ∧ (∀ j, j < 4 → ((0xF0 : Byte) &&& 0xF0).getLsbD j = false) ∧
      after (step { start with config := sm83, ime := true, ieReg := 0xF0, ifReg := 0xF0 }) (fun t => (t.ifReg, t.pc)) =
        some (0xE0, 0x0060) := by decide

/-- The high byte of the pushed PC, and then the low one, as the source page of a DMA copy from the absent BIOS. -/
theorem test_witness_InterruptEntry_fault :
    ((0x01 : Byte) &&& 0x01).getLsbD 0 = true ∧
      ¬ ({ start with sp := 0xFF45, pc := 0x0012 } : State).writable (0xFF45 + 1) (0x0012 : Word).hi ∧
      step { start with config := sm83, ime := true, ieReg := 0x01, ifReg := 0x01, sp := 0xFF47, pc := 0x0012 } =
        .fault (.biosAbsent 0x0000) ∧
      step { start with config := sm83, ime := true, ieReg := 0x01, ifReg := 0x01, sp := 0xFF48, pc := 0x0200 } =
        .fault (.biosAbsent 0x0000) := by
  unfold State.writable
  split_ands <;> first | rfl | decide

theorem test_witness_HaltedEngineWakesOrChangesNothing :
    interruptCheck { start with halted := true } = .ok (false, { start with halted := true }) ∧
      interruptCheck { start with stopped := true } = .ok (false, { start with stopped := true }) ∧
      step { start with config := sm83, halted := true, ieReg := 0x10, ifReg := 0x10 } =
        runInstruction { start with config := sm83, ieReg := 0x10, ifReg := 0x10 } ∧
      step { start with config := sm83, halted := true, ieReg := 0xE0, ifReg := 0xE0 } =
        .next { start with config := sm83, halted := true, ieReg := 0xE0, ifReg := 0xE0 } := by
  split_ands <;> first | decide | rfl

theorem test_witness_StepIsFixedExactlyWhenHalted : start.config.interruptModel = .none ∧ start.halted = false ∧
    start.stopped = false ∧ after (step start) (fun t => t.cycles) = some 1 := by decide

theorem test_witness_EiTakesEffectAfterTheNextInstruction : ({ start with eiDelay := true } : State).runs ∧
    fetchInstr { start with eiDelay := true } = .ok (.nop, { start with eiDelay := true }) ∧
    after (exec .nop { start with eiDelay := true }) (fun t => (t.ime, t.eiDelay)) = some (false, true) ∧
    after (step { start with eiDelay := true }) (fun t => (t.ime, t.eiDelay)) = some (true, false) ∧
    after (step { start with eiDelay := true, cart := code [0xF3] }) (fun t => (t.ime, t.eiDelay)) = some (false, false) := by
  unfold State.runs
  decide

theorem test_witness_unreadableOperands :
    ¬ start.readable start.hl ∧ ¬ ({ start with sp := 0x0000 } : State).readable 0x0000 ∧ condHolds .nz start ∧
      ({ start with sp := 0xFFFF } : State).readable 0xFFFF ∧ ¬ ({ start with sp := 0xFFFF } : State).readable 0x0000 ∧
      exec .addAIndHl start = .fault (.biosAbsent 0x0000) ∧ exec .bit0IndHl start = .fault (.biosAbsent 0x0000) ∧
      exec .popBc { start with sp := 0xFFFF } = .fault (.biosAbsent 0x0000) ∧
      exec .retNz { start with sp := 0x0000 } = .fault (.biosAbsent 0x0000) := by
  unfold State.readable condHolds
  split_ands <;> first | decide | rfl

/-- SP's high byte, then its low byte, as the source page of a DMA copy. -/
theorem test_witness_WordStoreFaults :
    ¬ ({ start with sp := 0x0012 } : State).writable (0xFF45 + 1) (0x0012 : Word).hi ∧
      exec (.ldIndA16Sp 0xFF45) { start with sp := 0x0012 } = .fault (.biosAbsent 0x0000) ∧
      ¬ ({ start with sp := 0x1200 } : State).writable 0xFF46 (0x1200 : Word).lo ∧
      exec (.ldIndA16Sp 0xFF46) { start with sp := 0x1200 } = .fault (.biosAbsent 0x0000) ∧
      exec (.callA16 0x0200) { start with sp := 0xFF47, pc := 0x0010 } = .fault (.biosAbsent 0x0000) := by
  unfold State.writable
  split_ands <;> first | decide | rfl

theorem test_witness_EveryInstructionCompletesOrStopsByName : State.reset.bios = none ∧
    ({ State.reset with bootLatch := true } : State).bootLatch = true ∧
    exec .ldAIndHl start = .fault (.biosAbsent 0x0000) ∧
    exec .halt { start with config := sm83, ieReg := 0x01, ifReg := 0x01 } = .refused .haltBug := by
  split_ands <;> first | decide | rfl

theorem test_witness_frames : after (exec .ldIndHlA { start with a := 0x5A, h := 0xC0 }) (fun t => (t.f, t.ime, t.halted)) =
      some (0x00, false, false) ∧
    Word.ofBytes 0xC0 0x00 ∈ storedAt .ldIndHlA { start with h := 0xC0 } ∧
    storedAt (.callA16 0x0200) start = [0xFFFD, 0xFFFC] ∧ storedAt (.callZA16 0x0200) start = [] ∧
    ¬ touches start.config 0xC000 0xC001 := by
  unfold touches
  decide

theorem test_witness_OnlyTheListedInstructionsWriteFlags :
    (∀ op src, Instr.nop ≠ Instr.alu op src) ∧ (∀ o, Instr.nop ≠ Instr.inc8 o ∧ Instr.nop ≠ Instr.dec8 o) ∧
      (∀ p, Instr.nop ≠ Instr.addHl p) ∧ (∀ op o, Instr.nop ≠ Instr.shift op o) ∧ (∀ b o, Instr.nop ≠ Instr.bit b o) := by
  refine ⟨?_, ?_, ?_, ?_, ?_⟩
  · intro op src; cases op <;> rcases src with r | _ | n <;> first | (cases r <;> exact Instr.noConfusion) | exact Instr.noConfusion
  · intro o; rcases o with r | _ <;> first | (cases r <;> exact ⟨Instr.noConfusion, Instr.noConfusion⟩) | exact ⟨Instr.noConfusion, Instr.noConfusion⟩
  · intro p; cases p <;> exact Instr.noConfusion
  · intro op o; cases op <;> rcases o with r | _ <;> first | (cases r <;> exact Instr.noConfusion) | exact Instr.noConfusion
  · intro b o; cases b <;> rcases o with r | _ <;> first | (cases r <;> exact Instr.noConfusion) | exact Instr.noConfusion

theorem test_witness_OnlyTheListedInstructionsWriteSp :
    after (exec .nop start) (fun t => t.sp) = some 0xFFFE ∧ (∀ q, Instr.nop ≠ Instr.push q ∧ Instr.nop ≠ Instr.pop q) ∧
      (∀ cc a, Instr.nop ≠ Instr.callCond cc a) ∧ (∀ cc, Instr.nop ≠ Instr.retCond cc) ∧
      (∀ r, Instr.nop ≠ Instr.rst r) := by
  refine ⟨by decide, ?_, ?_, ?_, ?_⟩
  · intro q; cases q <;> exact ⟨Instr.noConfusion, Instr.noConfusion⟩
  · intro cc a; cases cc <;> exact Instr.noConfusion
  · intro cc; cases cc <;> exact Instr.noConfusion
  · intro r; cases r <;> exact Instr.noConfusion

theorem test_witness_StepKeepsInvariant : State.reset.Inv ∧ after (step State.reset) (fun t => t.pc) = some 0x0101 :=
  ⟨⟨rfl, rfl, (fun _ h => nomatch h), fun _ _ h => absurd h List.not_mem_nil, rfl⟩, by decide⟩
end

section
/-! What every completed step keeps: the two read-only stores, the parameters, and a set boot latch (R9, R45, R60, R61).
The relation is transitive, so it is shown for each move a step is made of and then followed along the step. -/

namespace Sys2Proof.Machine

/-- From `s` to `t` the cartridge, the BIOS and the parameters are unchanged, and the latch does not fall. -/
structure State.KeepsReadOnly (s t : State) : Prop where
  cart : t.cart = s.cart
  bios : t.bios = s.bios
  config : t.config = s.config
  latch : s.bootLatch = true → t.bootLatch = true

variable {s t u : State}

theorem State.KeepsReadOnly.refl (s : State) : s.KeepsReadOnly s := ⟨rfl, rfl, rfl, id⟩

theorem State.KeepsReadOnly.trans (h₁ : s.KeepsReadOnly t) (h₂ : t.KeepsReadOnly u) : s.KeepsReadOnly u where
  cart := h₂.cart.trans h₁.cart
  bios := h₂.bios.trans h₁.bios
  config := h₂.config.trans h₁.config
  latch := h₂.latch ∘ h₁.latch

/-- Waking writes `halted` only (R411). -/
theorem State.setHalted_keepsReadOnly (s : State) (b : Bool) : s.KeepsReadOnly (s.setHalted b) := ⟨rfl, rfl, rfl, id⟩

theorem State.RegStep.keepsReadOnly (h : s.RegStep t) : s.KeepsReadOnly t := by
  rw [h.frame]
  exact ⟨rfl, rfl, rfl, id⟩

/-- The only write to the latch sets it (R83). -/
theorem State.BusStep.keepsReadOnly (h : s.BusStep t) : s.KeepsReadOnly t := ⟨h.cart, h.bios, h.config, h.latch⟩

theorem State.Trace.keepsReadOnly {P : Word → Prop} (h : State.Trace P s t) : s.KeepsReadOnly t := by
  induction h with
  | regs h => exact h.keepsReadOnly
  | read s a => exact (s.afterRead_busStep a).keepsReadOnly
  | write _ h => exact (busWrite_busStep h).keepsReadOnly
  | trans _ _ ih₁ ih₂ => exact ih₁.trans ih₂

theorem exec_keepsReadOnly {i : Instr} (h : exec i s = .next t) : s.KeepsReadOnly t :=
  (exec_trace i s t h).keepsReadOnly

theorem fetchInstr_keepsReadOnly {i : Instr} (h : fetchInstr s = .ok (i, t)) : s.KeepsReadOnly t := by
  rw [fetchInstr_frame h]
  exact ⟨rfl, rfl, rfl, id⟩

theorem promoteEi_keepsReadOnly (b : Bool) (s : State) : s.KeepsReadOnly (promoteEi b s) := by
  rw [promoteEi_frame]
  exact ⟨rfl, rfl, rfl, id⟩

/-- An interrupt entry acknowledges, pushes PC, and sets PC and the count (R412). -/
theorem takeInterrupt_keepsReadOnly {k : Nat} (h : takeInterrupt k s = .ok t) : s.KeepsReadOnly t := by
  obtain ⟨u, hpush, rfl⟩ := takeInterrupt_eq_ok.1 h
  have hack : s.KeepsReadOnly (s.acknowledged k) := ⟨rfl, rfl, rfl, id⟩
  have hu := (push16_trace (P := fun _ => True) trivial trivial hpush).keepsReadOnly
  have hvec : u.KeepsReadOnly ((u.setPc (BitVec.ofNat 16 (0x0040 + 8 * k))).addCycles (perMCycle u.config * 5)) :=
    ⟨rfl, rfl, rfl, id⟩
  exact (hack.trans hu).trans hvec

theorem step_keepsReadOnly (h : step s = .next t) : s.KeepsReadOnly t := by
  obtain ⟨-, -, -, hint⟩ | ⟨r, hr, -, hrest⟩ := step_cases h
  · exact (s.setHalted_keepsReadOnly false).trans (takeInterrupt_keepsReadOnly hint)
  · have hsr : s.KeepsReadOnly r := by
      obtain rfl | rfl := hr
      · exact .refl _
      · exact s.setHalted_keepsReadOnly false
    obtain ⟨rfl, -⟩ | ⟨-, -, i, u, w, hfetch, hexec, rfl⟩ := hrest
    · exact hsr
    · exact ((hsr.trans (fetchInstr_keepsReadOnly hfetch)).trans (exec_keepsReadOnly hexec)).trans
        (promoteEi_keepsReadOnly r.eiDelay w)

/-- Settles O58: every move of a step keeps the read-only stores, the parameters and a set latch. -/
theorem stepKeepsReadOnlyStoresAndLatch : Obligations.StepKeepsReadOnlyStoresAndLatch := by
  intro s t h
  obtain ⟨hcart, hbios, hconfig, hlatch⟩ := step_keepsReadOnly h
  exact ⟨hcart, hbios, hconfig, hlatch⟩

end Sys2Proof.Machine
end

section
/-! The invariant of the reachable states (R32, R47, R49) over a step. The canonical form of `mem` and F's low nibble are
followed along a trace; the two read-only stores never change (`step_keepsReadOnly`). -/

namespace Sys2Proof.Machine

/-- From `s` to `t`, a canonical `mem` stays canonical and a clear low nibble of F stays clear: the two parts of the
invariant that a step can write. -/
structure State.KeepsInv (s t : State) : Prop where
  canonical : s.mem.Canonical → t.mem.Canonical
  lowNibble : s.f &&& 0x0F = 0 → t.f &&& 0x0F = 0

variable {s t u : State}

theorem State.KeepsInv.refl (s : State) : s.KeepsInv s := ⟨id, id⟩

theorem State.KeepsInv.trans (h₁ : s.KeepsInv t) (h₂ : t.KeepsInv u) : s.KeepsInv u :=
  ⟨h₂.canonical ∘ h₁.canonical, h₂.lowNibble ∘ h₁.lowNibble⟩

/-- A move that leaves `mem` and F keeps the invariant. -/
theorem State.KeepsInv.of_eq (hmem : t.mem = s.mem) (hf : t.f = s.f) : s.KeepsInv t :=
  ⟨fun h => hmem ▸ h, fun h => hf ▸ h⟩

theorem State.RegStep.keepsInv (h : s.RegStep t) : s.KeepsInv t := by
  have hmem : t.mem = s.mem := by rw [h.frame]
  exact ⟨fun hc => hmem ▸ hc, h.lowNibble⟩

theorem State.Trace.keepsInv {P : Word → Prop} (h : State.Trace P s t) : s.KeepsInv t := by
  induction h with
  | regs h => exact h.keepsInv
  | read s a => rw [State.afterRead_eq]; exact .of_eq rfl rfl
  | write _ h => exact ⟨busWrite_canonical h, fun hz => (busWrite_busStep h).f ▸ hz⟩
  | trans _ _ ih₁ ih₂ => exact ih₁.trans ih₂

theorem takeInterrupt_keepsInv {k : Nat} (h : takeInterrupt k s = .ok t) : s.KeepsInv t := by
  obtain ⟨u, hpush, rfl⟩ := takeInterrupt_eq_ok.1 h
  have hack : s.KeepsInv (s.acknowledged k) := .of_eq rfl rfl
  have hu := (push16_trace (P := fun _ => True) trivial trivial hpush).keepsInv
  exact (hack.trans hu).trans (.of_eq rfl rfl)

theorem step_keepsInv (h : step s = .next t) : s.KeepsInv t := by
  obtain ⟨-, -, -, hint⟩ | ⟨r, hr, -, hrest⟩ := step_cases h
  · have hwake : s.KeepsInv (s.setHalted false) := .of_eq rfl rfl
    exact hwake.trans (takeInterrupt_keepsInv hint)
  · have hsr : s.KeepsInv r := by obtain rfl | rfl := hr <;> exact .of_eq rfl rfl
    obtain ⟨rfl, -⟩ | ⟨-, -, i, u, w, hfetch, hexec, rfl⟩ := hrest
    · exact hsr
    · have hru : r.KeepsInv u := by rw [fetchInstr_frame hfetch]; exact .of_eq rfl rfl
      have hpromote : w.KeepsInv (promoteEi r.eiDelay w) := by rw [promoteEi_frame]; exact .of_eq rfl rfl
      exact ((hsr.trans hru).trans (exec_trace i u w hexec).keepsInv).trans hpromote

/-- Settles O59: a step keeps what it can write of the invariant, and does not write the two read-only stores. -/
theorem stepKeepsInvariant : Obligations.StepKeepsInvariant := by
  intro s t hs h
  obtain ⟨hmem, hcart, hbios, hcells, hnibble⟩ := hs
  obtain ⟨hcanonical, hlow⟩ := step_keepsInv h
  obtain ⟨hcart', hbios', -, -⟩ := step_keepsReadOnly h
  obtain ⟨hmem', hcells'⟩ := hcanonical ⟨hmem, hcells⟩
  exact ⟨hmem', hcart' ▸ hcart, hbios' ▸ hbios, hcells', hlow hnibble⟩

end Sys2Proof.Machine
end

section
/-! Nothing reads the cycle count (R44, R470): every operation of a step, run from a state with `n` more cycles counted,
answers as it does from the state itself, with `n` more cycles counted. -/

namespace Sys2Proof.Machine

/-- The answer of a read or of a handler, with `n` more cycles counted in its state. -/
def answerAddCycles {α : Type} (n : Nat) (p : α × State) : α × State := (p.1, p.2.addCycles n)

/-- The outcome of an instruction or of a step, with `n` more cycles counted in the next state. -/
def outcomeAddCycles (n : Nat) : StepOutcome → StepOutcome
  | .next t => .next (t.addCycles n)
  | .fault f => .fault f
  | .refused r => .refused r

variable {α β : Type} {n : Nat}

/-- A sequence commutes with a change of its answers when both of its parts do. -/
theorem Res.bind_commutes {x x' : Res α} {g g' : α → Res β} {d : α → α} {d' : β → β} (hx : x' = d <$> x)
    (hg : ∀ a, g' (d a) = d' <$> g a) : (x' >>= g') = d' <$> (x >>= g) := by
  rw [hx, bind_map_left, map_bind]
  exact congrArg _ (funext hg)

theorem State.addCycles_addCycles_comm (s : State) (n k : Nat) :
    (s.addCycles n).addCycles k = (s.addCycles k).addCycles n := by
  simp only [State.addCycles, Nat.add_right_comm]

/-! ### The bus -/

theorem State.afterRead_addCycles (s : State) (n : Nat) (a : Word) :
    (s.addCycles n).afterRead a = (s.afterRead a).addCycles n := by
  rw [State.afterRead_eq, State.afterRead_eq]
  rfl

theorem busRead_addCycles (a : Word) (s : State) (n : Nat) :
    busRead a (s.addCycles n) = answerAddCycles n <$> busRead a s := by
  have hpeek : (s.addCycles n).peek a = id <$> s.peek a := (id_map _).symm
  refine Res.bind_commutes hpeek fun v => ?_
  rw [State.afterRead_addCycles]
  rfl

theorem dmaLoop_addCycles (base : Word) (k i : Nat) (s : State) (n : Nat) :
    dmaLoop base k i (s.addCycles n) = (State.addCycles · n) <$> dmaLoop base k i s := by
  induction k generalizing i s with
  | zero => rfl
  | succ k ih => exact Res.bind_commutes (busRead_addCycles ..) fun ⟨v, u⟩ => ih (i + 1) (u.writeOam (0xFE00 + i) v)

theorem ioWrite_addCycles (a : Word) (v : Byte) (s : State) (n : Nat) :
    ioWrite a v (s.addCycles n) = (State.addCycles · n) <$> ioWrite a v s := by
  unfold ioWrite
  simp only [State.setMem_config, State.addCycles_config]
  cases writeTapOf s.config.taps a
  case dma => exact dmaLoop_addCycles _ 160 0 (s.setMem (s.mem.write a.toNat v)) n
  all_goals rfl

theorem busWrite_addCycles (a : Word) (v : Byte) (s : State) (n : Nat) :
    busWrite a v (s.addCycles n) = (State.addCycles · n) <$> busWrite a v s := by
  unfold busWrite
  rw [State.addCycles_config]
  cases regionOf s.config a
  case io => exact ioWrite_addCycles a v s n
  all_goals rfl

theorem memRead16_addCycles (a : Word) (s : State) (n : Nat) :
    memRead16 a (s.addCycles n) = answerAddCycles n <$> memRead16 a s :=
  Res.bind_commutes (busRead_addCycles ..) fun ⟨_, _⟩ =>
    Res.bind_commutes (busRead_addCycles ..) fun _ => rfl

theorem memWrite16_addCycles (a w : Word) (s : State) (n : Nat) :
    memWrite16 a w (s.addCycles n) = (State.addCycles · n) <$> memWrite16 a w s :=
  Res.bind_commutes (busWrite_addCycles ..) fun u => busWrite_addCycles a w.lo u n

theorem push16_addCycles (w : Word) (s : State) (n : Nat) :
    push16 w (s.addCycles n) = (State.addCycles · n) <$> push16 w s :=
  memWrite16_addCycles (s.sp - 2) w (s.setSp (s.sp - 2)) n

theorem pop16_addCycles (s : State) (n : Nat) :
    pop16 (s.addCycles n) = answerAddCycles n <$> pop16 s :=
  Res.bind_commutes (memRead16_addCycles ..) fun _ => rfl

theorem callTo_addCycles (w target : Word) (s : State) (n : Nat) :
    callTo w target (s.addCycles n) = (State.addCycles · n) <$> callTo w target s :=
  Res.bind_commutes (push16_addCycles ..) fun _ => rfl

theorem returnFrom_addCycles (s : State) (n : Nat) :
    returnFrom (s.addCycles n) = (State.addCycles · n) <$> returnFrom s :=
  Res.bind_commutes (pop16_addCycles ..) fun _ => rfl

theorem returnFromInterrupt_addCycles (s : State) (n : Nat) :
    returnFromInterrupt (s.addCycles n) = (State.addCycles · n) <$> returnFromInterrupt s :=
  Res.bind_commutes (pop16_addCycles ..) fun _ => rfl

/-! ### Operands -/

theorem State.setReg8_addCycles (s : State) (n : Nat) (r : Reg8) (v : Byte) :
    (s.addCycles n).setReg8 r v = (s.setReg8 r v).addCycles n := by
  cases r <;> rfl

theorem State.setReg16_addCycles (s : State) (n : Nat) (p : Reg16) (v : Word) :
    (s.addCycles n).setReg16 p v = (s.setReg16 p v).addCycles n := by
  cases p <;> rfl

theorem State.setStackPair_addCycles (s : State) (n : Nat) (q : StackPair) (v : Word) :
    (s.addCycles n).setStackPair q v = (s.setStackPair q v).addCycles n := by
  cases q <;> rfl

theorem readOperand8_addCycles (o : Operand8) (s : State) (n : Nat) :
    readOperand8 o (s.addCycles n) = answerAddCycles n <$> readOperand8 o s := by
  cases o
  case reg r => rfl
  case indHl => exact busRead_addCycles s.hl s n

theorem writeOperand8_addCycles (o : Operand8) (v : Byte) (s : State) (n : Nat) :
    writeOperand8 o v (s.addCycles n) = (State.addCycles · n) <$> writeOperand8 o v s := by
  cases o
  case reg r => exact congrArg Except.ok (s.setReg8_addCycles n r v)
  case indHl => exact busWrite_addCycles s.hl v s n

theorem readSource_addCycles (src : AluSource) (s : State) (n : Nat) :
    readSource src (s.addCycles n) = answerAddCycles n <$> readSource src s := by
  cases src
  case indHl => exact busRead_addCycles s.hl s n
  all_goals rfl

/-! ### The handlers -/

theorem Res.ok_commutes {o : ExecutionOutcome} {t t' : State} (h : t' = t.addCycles n) :
    (.ok (o, t') : Res (ExecutionOutcome × State)) = answerAddCycles n <$> .ok (o, t) := by
  rw [h]
  rfl

theorem Res.ite_commutes {c : Prop} [Decidable c] {x x' y y' : Res α} {d : α → α} (hx : x' = d <$> x)
    (hy : y' = d <$> y) : (if c then x' else y') = d <$> (if c then x else y) := by
  split
  · exact hx
  · exact hy

/-- The handler answers the same from a larger cycle count. -/
def Handler.IgnoresCycles (handler : Handler) : Prop :=
  ∀ s n, handler (s.addCycles n) = answerAddCycles n <$> handler s

theorem handleLdRegReg_ignoresCycles (dst src : Reg8) : (handleLdRegReg dst src).IgnoresCycles :=
  fun s n => Res.ok_commutes (s.setReg8_addCycles n dst _)

theorem handleLdRegN8_ignoresCycles (dst : Reg8) (v : Byte) : (handleLdRegN8 dst v).IgnoresCycles :=
  fun s n => Res.ok_commutes (s.setReg8_addCycles n dst v)

theorem handleLdRegIndHl_ignoresCycles (dst : Reg8) : (handleLdRegIndHl dst).IgnoresCycles :=
  fun s n => Res.bind_commutes (busRead_addCycles s.hl s n) fun ⟨v, u⟩ =>
    Res.ok_commutes (u.setReg8_addCycles n dst v)

theorem handleLdIndHlReg_ignoresCycles (src : Reg8) : (handleLdIndHlReg src).IgnoresCycles :=
  fun s n => Res.bind_commutes (busWrite_addCycles s.hl _ s n) fun _ => rfl

theorem handleLdIndHlN8_ignoresCycles (v : Byte) : (handleLdIndHlN8 v).IgnoresCycles :=
  fun s n => Res.bind_commutes (busWrite_addCycles s.hl v s n) fun _ => rfl

theorem handleLoadA_ignoresCycles (a : Word) : (handleLoadA a).IgnoresCycles :=
  fun s n => Res.bind_commutes (busRead_addCycles a s n) fun _ => rfl

theorem handleStoreA_ignoresCycles (a : Word) : (handleStoreA a).IgnoresCycles :=
  fun s n => Res.bind_commutes (busWrite_addCycles a s.a s n) fun _ => rfl

theorem handleStoreAMoveHl_ignoresCycles (delta : Word) : (handleStoreAMoveHl delta).IgnoresCycles :=
  fun s n => Res.bind_commutes (busWrite_addCycles s.hl s.a s n) fun _ => rfl

theorem handleLoadAMoveHl_ignoresCycles (delta : Word) : (handleLoadAMoveHl delta).IgnoresCycles :=
  fun s n => Res.bind_commutes (busRead_addCycles s.hl s n) fun _ => rfl

theorem handleLdPairN16_ignoresCycles (p : Reg16) (w : Word) : (handleLdPairN16 p w).IgnoresCycles :=
  fun s n => Res.ok_commutes (s.setReg16_addCycles n p w)

theorem handleLdIndA16Sp_ignoresCycles (a : Word) : (handleLdIndA16Sp a).IgnoresCycles :=
  fun s n => Res.bind_commutes (memWrite16_addCycles a s.sp s n) fun _ => rfl

theorem handleLdSpHl_ignoresCycles : handleLdSpHl.IgnoresCycles := fun _ _ => rfl

theorem handleLdHlSpE8_ignoresCycles (e : Byte) : (handleLdHlSpE8 e).IgnoresCycles := fun _ _ => rfl

theorem handlePush_ignoresCycles (q : StackPair) : (handlePush q).IgnoresCycles :=
  fun s n => Res.bind_commutes (push16_addCycles (s.stackPair q) s n) fun _ => rfl

theorem handlePop_ignoresCycles (q : StackPair) : (handlePop q).IgnoresCycles :=
  fun s n => Res.bind_commutes (pop16_addCycles s n) fun ⟨v, u⟩ => Res.ok_commutes (u.setStackPair_addCycles n q v)

theorem handleAlu_ignoresCycles (op : AluOp) (src : AluSource) : (handleAlu op src).IgnoresCycles :=
  fun s n => Res.bind_commutes (readSource_addCycles src s n) fun _ => rfl

theorem handleInc8_ignoresCycles (o : Operand8) : (handleInc8 o).IgnoresCycles :=
  fun s n => Res.bind_commutes (readOperand8_addCycles o s n) fun ⟨v, u⟩ =>
    Res.bind_commutes (writeOperand8_addCycles o (v + 1) u n) fun _ => rfl

theorem handleDec8_ignoresCycles (o : Operand8) : (handleDec8 o).IgnoresCycles :=
  fun s n => Res.bind_commutes (readOperand8_addCycles o s n) fun ⟨v, u⟩ =>
    Res.bind_commutes (writeOperand8_addCycles o (v - 1) u n) fun _ => rfl

theorem handleDaa_ignoresCycles : handleDaa.IgnoresCycles := fun _ _ => rfl

theorem handleCpl_ignoresCycles : handleCpl.IgnoresCycles := fun _ _ => rfl

theorem handleScf_ignoresCycles : handleScf.IgnoresCycles := fun _ _ => rfl

theorem handleCcf_ignoresCycles : handleCcf.IgnoresCycles := fun _ _ => rfl

theorem handleAddHl_ignoresCycles (p : Reg16) : (handleAddHl p).IgnoresCycles := fun _ _ => rfl

theorem handleInc16_ignoresCycles (p : Reg16) : (handleInc16 p).IgnoresCycles :=
  fun s n => Res.ok_commutes (s.setReg16_addCycles n p _)

theorem handleDec16_ignoresCycles (p : Reg16) : (handleDec16 p).IgnoresCycles :=
  fun s n => Res.ok_commutes (s.setReg16_addCycles n p _)

theorem handleAddSpE8_ignoresCycles (e : Byte) : (handleAddSpE8 e).IgnoresCycles := fun _ _ => rfl

theorem handleJp_ignoresCycles (target : Word) : (handleJp target).IgnoresCycles := fun _ _ => rfl

theorem handleJpCond_ignoresCycles (cc : Cond) (target : Word) : (handleJpCond cc target).IgnoresCycles :=
  fun s _ => Res.ite_commutes (c := s.cond cc = true) rfl rfl

theorem handleJr_ignoresCycles (e : Byte) : (handleJr e).IgnoresCycles := fun _ _ => rfl

theorem handleJrCond_ignoresCycles (cc : Cond) (e : Byte) : (handleJrCond cc e).IgnoresCycles :=
  fun s _ => Res.ite_commutes (c := s.cond cc = true) rfl rfl

theorem handleCall_ignoresCycles (target : Word) : (handleCall target).IgnoresCycles :=
  fun s n => Res.bind_commutes (callTo_addCycles (s.pc + 3) target s n) fun _ => rfl

theorem handleCallCond_ignoresCycles (cc : Cond) (target : Word) : (handleCallCond cc target).IgnoresCycles :=
  fun s n => Res.ite_commutes (c := s.cond cc = true)
    (Res.bind_commutes (callTo_addCycles (s.pc + 3) target s n) fun _ => rfl) rfl

theorem handleRet_ignoresCycles : handleRet.IgnoresCycles :=
  fun s n => Res.bind_commutes (returnFrom_addCycles s n) fun _ => rfl

theorem handleRetCond_ignoresCycles (cc : Cond) : (handleRetCond cc).IgnoresCycles :=
  fun s n => Res.ite_commutes (c := s.cond cc = true) (Res.bind_commutes (returnFrom_addCycles s n) fun _ => rfl) rfl

theorem handleReti_ignoresCycles : handleReti.IgnoresCycles :=
  fun s n => Res.bind_commutes (returnFromInterrupt_addCycles s n) fun _ => rfl

theorem handleRst_ignoresCycles (x : RstTarget) : (handleRst x).IgnoresCycles :=
  fun s n => Res.bind_commutes (callTo_addCycles (s.pc + 1) (rstAddress x) s n) fun _ => rfl

theorem handleRotateA_ignoresCycles (op : ShiftOp) : (handleRotateA op).IgnoresCycles := fun _ _ => rfl

theorem handleShift_ignoresCycles (op : ShiftOp) (o : Operand8) : (handleShift op o).IgnoresCycles :=
  fun s n => Res.bind_commutes (readOperand8_addCycles o s n) fun ⟨v, u⟩ =>
    Res.bind_commutes (writeOperand8_addCycles o (shiftApply op v u.flagCy).1 u n) fun _ => rfl

theorem handleBit_ignoresCycles (b : BitIndex) (o : Operand8) : (handleBit b o).IgnoresCycles :=
  fun s n => Res.bind_commutes (readOperand8_addCycles o s n) fun _ => rfl

theorem handleRes_ignoresCycles (b : BitIndex) (o : Operand8) : (handleRes b o).IgnoresCycles :=
  fun s n => Res.bind_commutes (readOperand8_addCycles o s n) fun ⟨v, u⟩ =>
    Res.bind_commutes (writeOperand8_addCycles o (clearBit b v) u n) fun _ => rfl

theorem handleSet_ignoresCycles (b : BitIndex) (o : Operand8) : (handleSet b o).IgnoresCycles :=
  fun s n => Res.bind_commutes (readOperand8_addCycles o s n) fun ⟨v, u⟩ =>
    Res.bind_commutes (writeOperand8_addCycles o (setBit b v) u n) fun _ => rfl

theorem handleNop_ignoresCycles : handleNop.IgnoresCycles := fun _ _ => rfl

/-- HALT consults the parameters, IME and the pending requests, and no more (R361). -/
theorem handleHalt_ignoresCycles : handleHalt.IgnoresCycles := by
  intro s n
  unfold handleHalt
  simp only [State.addCycles_config, State.addCycles_ime]
  cases s.config.haltModel
  case nop => rfl
  case stop =>
    have hpending : (s.addCycles n).pending = s.pending := rfl
    simp only [hpending]
    split <;> rfl

theorem handleStop_ignoresCycles : handleStop.IgnoresCycles := by
  intro s n
  unfold handleStop
  rw [State.addCycles_config]
  cases s.config.haltModel <;> rfl

theorem handleDi_ignoresCycles : handleDi.IgnoresCycles := fun _ _ => rfl

theorem handleEi_ignoresCycles : handleEi.IgnoresCycles := fun _ _ => rfl

/-! ### Every instruction -/

theorem applyOutcome_addCycles (d : Descriptor) (o : ExecutionOutcome) (pc0 : Word) (u : State) (n : Nat) :
    applyOutcome d o pc0 (u.addCycles n) = (applyOutcome d o pc0 u).addCycles n := by
  unfold applyOutcome
  simp only [State.addCycles_config, u.addCycles_addCycles_comm n]
  cases o <;> rfl

theorem outcomeAddCycles_toOutcome (n : Nat) (e : Stop) : outcomeAddCycles n e.toOutcome = e.toOutcome := by
  cases e <;> rfl

/-- The instruction ends the same from a larger cycle count, with the count larger by as much. -/
def IgnoresCycles (i : Instr) : Prop := ∀ s n, exec i (s.addCycles n) = outcomeAddCycles n (exec i s)

/-- An instruction whose handler ignores the count ignores it: the charge is added to the count, not read from it. -/
theorem IgnoresCycles.of_handler {i : Instr} {d : Descriptor} {handler : State → Handler}
    (hexec : ∀ s, exec i s = perform d (handler s) s)
    (hhandler : ∀ s n, handler (s.addCycles n) (s.addCycles n) = answerAddCycles n <$> handler s s) :
    IgnoresCycles i := by
  intro s n
  rw [hexec, hexec]
  cases h : handler s s with
  | error e =>
    have h' : handler (s.addCycles n) (s.addCycles n) = .error e := by rw [hhandler, h]; rfl
    rw [perform_of_error h, perform_of_error h', outcomeAddCycles_toOutcome]
  | ok p =>
    obtain ⟨o, u⟩ := p
    have h' : handler (s.addCycles n) (s.addCycles n) = .ok (o, u.addCycles n) := by rw [hhandler, h]; rfl
    rw [perform_of_ok h, perform_of_ok h']
    exact congrArg Host.Outcome.next (applyOutcome_addCycles d o s.pc u n)

theorem exec_ignoresCycles (i : Instr) : IgnoresCycles i := by
  apply Instr.byFamily (P := IgnoresCycles)
  case ldRegReg => exact fun dst src => .of_handler (exec_ldRegReg dst src) (handleLdRegReg_ignoresCycles dst src)
  case ldRegN8 => exact fun dst n => .of_handler (exec_ldRegN8 dst n) (handleLdRegN8_ignoresCycles dst n)
  case ldRegIndHl => exact fun dst => .of_handler (exec_ldRegIndHl dst) (handleLdRegIndHl_ignoresCycles dst)
  case ldIndHlReg => exact fun src => .of_handler (exec_ldIndHlReg src) (handleLdIndHlReg_ignoresCycles src)
  case ldPairN16 => exact fun p n => .of_handler (exec_ldPairN16 p n) (handleLdPairN16_ignoresCycles p n)
  case push => exact fun q => .of_handler (exec_push q) (handlePush_ignoresCycles q)
  case pop => exact fun q => .of_handler (exec_pop q) (handlePop_ignoresCycles q)
  case alu => exact fun op src => .of_handler (exec_alu op src) (handleAlu_ignoresCycles op src)
  case inc8 => exact fun o => .of_handler (exec_inc8 o) (handleInc8_ignoresCycles o)
  case dec8 => exact fun o => .of_handler (exec_dec8 o) (handleDec8_ignoresCycles o)
  case addHl => exact fun p => .of_handler (exec_addHl p) (handleAddHl_ignoresCycles p)
  case inc16 => exact fun p => .of_handler (exec_inc16 p) (handleInc16_ignoresCycles p)
  case dec16 => exact fun p => .of_handler (exec_dec16 p) (handleDec16_ignoresCycles p)
  case shift => exact fun op o => .of_handler (exec_shift op o) (handleShift_ignoresCycles op o)
  case bit => exact fun b o => .of_handler (exec_bit b o) (handleBit_ignoresCycles b o)
  case res => exact fun b o => .of_handler (exec_res b o) (handleRes_ignoresCycles b o)
  case set => exact fun b o => .of_handler (exec_set b o) (handleSet_ignoresCycles b o)
  case jpCond => exact fun cc a => .of_handler (exec_jpCond cc a) (handleJpCond_ignoresCycles cc a)
  case jrCond => exact fun cc e => .of_handler (exec_jrCond cc e) (handleJrCond_ignoresCycles cc e)
  case callCond => exact fun cc a => .of_handler (exec_callCond cc a) (handleCallCond_ignoresCycles cc a)
  case retCond => exact fun cc => .of_handler (exec_retCond cc) (handleRetCond_ignoresCycles cc)
  case rst => exact fun t => .of_handler (exec_rst t) (handleRst_ignoresCycles t)
  case nop => exact .of_handler exec_nop handleNop_ignoresCycles
  case ldIndBcA => exact .of_handler exec_ldIndBcA (fun s => handleStoreA_ignoresCycles s.bc s)
  case rlca => exact .of_handler exec_rlca (handleRotateA_ignoresCycles .rlc)
  case ldIndA16Sp => exact fun n => .of_handler (exec_ldIndA16Sp n) (handleLdIndA16Sp_ignoresCycles n)
  case ldAIndBc => exact .of_handler exec_ldAIndBc (fun s => handleLoadA_ignoresCycles s.bc s)
  case rrca => exact .of_handler exec_rrca (handleRotateA_ignoresCycles .rrc)
  case stop => exact .of_handler exec_stop handleStop_ignoresCycles
  case ldIndDeA => exact .of_handler exec_ldIndDeA (fun s => handleStoreA_ignoresCycles s.de s)
  case rla => exact .of_handler exec_rla (handleRotateA_ignoresCycles .rl)
  case jrE8 => exact fun n => .of_handler (exec_jrE8 n) (handleJr_ignoresCycles n)
  case ldAIndDe => exact .of_handler exec_ldAIndDe (fun s => handleLoadA_ignoresCycles s.de s)
  case rra => exact .of_handler exec_rra (handleRotateA_ignoresCycles .rr)
  case ldIndHlIncA => exact .of_handler exec_ldIndHlIncA (handleStoreAMoveHl_ignoresCycles 1)
  case daa => exact .of_handler exec_daa handleDaa_ignoresCycles
  case ldAIndHlInc => exact .of_handler exec_ldAIndHlInc (handleLoadAMoveHl_ignoresCycles 1)
  case cpl => exact .of_handler exec_cpl handleCpl_ignoresCycles
  case ldIndHlDecA => exact .of_handler exec_ldIndHlDecA (handleStoreAMoveHl_ignoresCycles (-1))
  case ldIndHlN8 => exact fun n => .of_handler (exec_ldIndHlN8 n) (handleLdIndHlN8_ignoresCycles n)
  case scf => exact .of_handler exec_scf handleScf_ignoresCycles
  case ldAIndHlDec => exact .of_handler exec_ldAIndHlDec (handleLoadAMoveHl_ignoresCycles (-1))
  case ccf => exact .of_handler exec_ccf handleCcf_ignoresCycles
  case halt => exact .of_handler exec_halt handleHalt_ignoresCycles
  case jpA16 => exact fun n => .of_handler (exec_jpA16 n) (handleJp_ignoresCycles n)
  case ret => exact .of_handler exec_ret handleRet_ignoresCycles
  case callA16 => exact fun n => .of_handler (exec_callA16 n) (handleCall_ignoresCycles n)
  case reti => exact .of_handler exec_reti handleReti_ignoresCycles
  case ldhIndA8A => exact fun n => .of_handler (exec_ldhIndA8A n) (handleStoreA_ignoresCycles (highPage n))
  case ldIndCA => exact .of_handler exec_ldIndCA (fun s => handleStoreA_ignoresCycles (highPage s.c) s)
  case addSpE8 => exact fun n => .of_handler (exec_addSpE8 n) (handleAddSpE8_ignoresCycles n)
  case jpHl => exact .of_handler exec_jpHl (fun s => handleJp_ignoresCycles s.hl s)
  case ldIndA16A => exact fun n => .of_handler (exec_ldIndA16A n) (handleStoreA_ignoresCycles n)
  case ldhAIndA8 => exact fun n => .of_handler (exec_ldhAIndA8 n) (handleLoadA_ignoresCycles (highPage n))
  case ldAIndC => exact .of_handler exec_ldAIndC (fun s => handleLoadA_ignoresCycles (highPage s.c) s)
  case di => exact .of_handler exec_di handleDi_ignoresCycles
  case ldHlSpE8 => exact fun n => .of_handler (exec_ldHlSpE8 n) (handleLdHlSpE8_ignoresCycles n)
  case ldSpHl => exact .of_handler exec_ldSpHl handleLdSpHl_ignoresCycles
  case ldAIndA16 => exact fun n => .of_handler (exec_ldAIndA16 n) (handleLoadA_ignoresCycles n)
  case ei => exact .of_handler exec_ei handleEi_ignoresCycles

/-! ### The step -/

theorem fetchOpcode_addCycles (pc0 : Word) (s : State) (n : Nat) :
    fetchOpcode pc0 (s.addCycles n) = answerAddCycles n <$> fetchOpcode pc0 s := by
  refine Res.bind_commutes (busRead_addCycles pc0 s n) fun ⟨b0, u⟩ => ?_
  exact Res.ite_commutes (Res.bind_commutes (busRead_addCycles (pc0 + 1) u n) fun _ => rfl) rfl

theorem fetchOperand_addCycles (e : Entry) (pc0 : Word) (s : State) (n : Nat) :
    fetchOperand e pc0 (s.addCycles n) = answerAddCycles n <$> fetchOperand e pc0 s := by
  cases e
  case op i => rfl
  case ignoredByte i => rfl
  case imm8 f => exact Res.bind_commutes (busRead_addCycles (pc0 + 1) s n) fun _ => rfl
  case imm16 f => exact Res.bind_commutes (memRead16_addCycles (pc0 + 1) s n) fun _ => rfl

theorem fetchInstr_addCycles (s : State) (n : Nat) :
    fetchInstr (s.addCycles n) = answerAddCycles n <$> fetchInstr s := by
  refine Res.bind_commutes (fetchOpcode_addCycles s.pc s n) fun ⟨op, u⟩ => ?_
  refine Res.ite_commutes (c := populated u.config op = true) ?_ rfl
  cases op
  case extended b => rfl
  case plain b =>
    cases hentry : plainEntry b with
    | none => simp only [hentry]; rfl
    | some e => simp only [hentry]; exact fetchOperand_addCycles e s.pc u n

theorem takeInterrupt_addCycles (k : Nat) (s : State) (n : Nat) :
    takeInterrupt k (s.addCycles n) = (State.addCycles · n) <$> takeInterrupt k s := by
  refine Res.bind_commutes (push16_addCycles s.pc (s.acknowledged k) n) fun u => ?_
  exact congrArg Except.ok
    ((u.setPc (BitVec.ofNat 16 (0x0040 + 8 * k))).addCycles_addCycles_comm n (perMCycle u.config * 5))

theorem interruptCheck_addCycles (s : State) (n : Nat) :
    interruptCheck (s.addCycles n) = answerAddCycles n <$> interruptCheck s := by
  have hpending : (s.addCycles n).pending = s.pending := rfl
  unfold interruptCheck
  simp only [State.addCycles_config, State.addCycles_ime, hpending]
  cases s.config.interruptModel
  case none => rfl
  case sm83 =>
    refine Res.ite_commutes rfl (Res.ite_commutes ?_ rfl)
    exact Res.bind_commutes (takeInterrupt_addCycles _ (s.setHalted false) n) fun _ => rfl

theorem promoteEi_addCycles (b : Bool) (s : State) (n : Nat) :
    promoteEi b (s.addCycles n) = (promoteEi b s).addCycles n := by
  unfold promoteEi
  rw [State.addCycles_eiDelay]
  split <;> rfl

theorem afterExec_outcomeAddCycles (b : Bool) (o : StepOutcome) (n : Nat) :
    afterExec b (outcomeAddCycles n o) = outcomeAddCycles n (afterExec b o) := by
  cases o
  case next t => exact congrArg Host.Outcome.next (promoteEi_addCycles b t n)
  all_goals rfl

theorem runInstruction_addCycles (s : State) (n : Nat) :
    runInstruction (s.addCycles n) = outcomeAddCycles n (runInstruction s) := by
  unfold runInstruction
  rw [fetchInstr_addCycles]
  cases fetchInstr s with
  | error e => exact (outcomeAddCycles_toOutcome n e).symm
  | ok p =>
    obtain ⟨i, u⟩ := p
    show afterExec s.eiDelay (exec i (u.addCycles n)) = _
    rw [exec_ignoresCycles, afterExec_outcomeAddCycles]

theorem step_addCycles (s : State) (n : Nat) : step (s.addCycles n) = outcomeAddCycles n (step s) := by
  unfold step stepOnce
  rw [interruptCheck_addCycles]
  cases interruptCheck s with
  | error e => exact (outcomeAddCycles_toOutcome n e).symm
  | ok p =>
    obtain ⟨taken, r⟩ := p
    cases taken
    · show (if r.halted || r.stopped then .next (r.addCycles n) else runInstruction (r.addCycles n)) =
        outcomeAddCycles n (if r.halted || r.stopped then .next r else runInstruction r)
      rw [runInstruction_addCycles]
      split <;> rfl
    · rfl

/-- Settles O60: every operation a step is made of commutes with a larger count, so the step does. -/
theorem cycleCountIsNeverRead : Obligations.CycleCountIsNeverRead := by
  intro s n
  have h := step_addCycles s n
  cases hs : step s <;> rw [hs] at h <;> exact h

end Sys2Proof.Machine
end

section
/-! Which instructions write F, SP and the control latches (R33, R40 to R43): the parts an instruction may write are read
off the lists of those rules, and every handler is shown to leave the other parts. -/

namespace Sys2Proof.Machine

/-- The parts of the CPU whose writers the spec lists (R33, R40 to R43). -/
inductive ControlPart where
  | f
  | sp
  | ime
  | eiDelay
  | halted
  | stopped

/-- From `s` to `t` every listed part outside `W` is unchanged. -/
structure State.Keeps (W : ControlPart → Prop) (s t : State) : Prop where
  f : ¬ W .f → t.f = s.f
  sp : ¬ W .sp → t.sp = s.sp
  ime : ¬ W .ime → t.ime = s.ime
  eiDelay : ¬ W .eiDelay → t.eiDelay = s.eiDelay
  halted : ¬ W .halted → t.halted = s.halted
  stopped : ¬ W .stopped → t.stopped = s.stopped

variable {W : ControlPart → Prop} {s t u : State} {α β : Type}

/-! ### Updates -/

theorem State.Keeps.trans (h₁ : s.Keeps W t) (h₂ : t.Keeps W u) : s.Keeps W u where
  f h := (h₂.f h).trans (h₁.f h)
  sp h := (h₂.sp h).trans (h₁.sp h)
  ime h := (h₂.ime h).trans (h₁.ime h)
  eiDelay h := (h₂.eiDelay h).trans (h₁.eiDelay h)
  halted h := (h₂.halted h).trans (h₁.halted h)
  stopped h := (h₂.stopped h).trans (h₁.stopped h)

theorem State.Keeps.refl (s : State) : s.Keeps W s :=
  ⟨fun _ => rfl, fun _ => rfl, fun _ => rfl, fun _ => rfl, fun _ => rfl, fun _ => rfl⟩

/-- The bus reaches none of the listed parts. -/
theorem State.BusStep.keeps (h : s.BusStep t) : s.Keeps W t :=
  ⟨fun _ => h.f, fun _ => h.sp, fun _ => h.ime, fun _ => h.eiDelay, fun _ => h.halted, fun _ => h.stopped⟩

theorem State.keeps_setReg8 (s : State) (r : Reg8) (v : Byte) : s.Keeps W (s.setReg8 r v) := by
  cases r <;> exact ⟨fun _ => rfl, fun _ => rfl, fun _ => rfl, fun _ => rfl, fun _ => rfl, fun _ => rfl⟩

theorem State.keeps_setHl (s : State) (v : Word) : s.Keeps W (s.setHl v) :=
  (s.keeps_setReg8 .h v.hi).trans (State.keeps_setReg8 _ .l v.lo)

theorem State.keeps_setPc (s : State) (v : Word) : s.Keeps W (s.setPc v) :=
  ⟨fun _ => rfl, fun _ => rfl, fun _ => rfl, fun _ => rfl, fun _ => rfl, fun _ => rfl⟩

theorem State.keeps_setF (hw : W .f) (s : State) (v : Byte) : s.Keeps W (s.setF v) :=
  ⟨fun h => absurd hw h, fun _ => rfl, fun _ => rfl, fun _ => rfl, fun _ => rfl, fun _ => rfl⟩

theorem State.keeps_setFlags (hw : W .f) (s : State) (z n h cy : Bool) : s.Keeps W (s.setFlags z n h cy) :=
  s.keeps_setF hw _

theorem State.keeps_setSp (hw : W .sp) (s : State) (v : Word) : s.Keeps W (s.setSp v) :=
  ⟨fun _ => rfl, fun h => absurd hw h, fun _ => rfl, fun _ => rfl, fun _ => rfl, fun _ => rfl⟩

theorem State.keeps_setIme (hw : W .ime) (s : State) (v : Bool) : s.Keeps W (s.setIme v) :=
  ⟨fun _ => rfl, fun _ => rfl, fun h => absurd hw h, fun _ => rfl, fun _ => rfl, fun _ => rfl⟩

theorem State.keeps_setEiDelay (hw : W .eiDelay) (s : State) (v : Bool) : s.Keeps W (s.setEiDelay v) :=
  ⟨fun _ => rfl, fun _ => rfl, fun _ => rfl, fun h => absurd hw h, fun _ => rfl, fun _ => rfl⟩

theorem State.keeps_setHalted (hw : W .halted) (s : State) (v : Bool) : s.Keeps W (s.setHalted v) :=
  ⟨fun _ => rfl, fun _ => rfl, fun _ => rfl, fun _ => rfl, fun h => absurd hw h, fun _ => rfl⟩

theorem State.keeps_setStopped (hw : W .stopped) (s : State) (v : Bool) : s.Keeps W (s.setStopped v) :=
  ⟨fun _ => rfl, fun _ => rfl, fun _ => rfl, fun _ => rfl, fun _ => rfl, fun h => absurd hw h⟩

theorem State.keeps_setReg16 {p : Reg16} (hw : p = .sp → W .sp) (s : State) (v : Word) :
    s.Keeps W (s.setReg16 p v) := by
  cases p
  case bc => exact (s.keeps_setReg8 .b v.hi).trans (State.keeps_setReg8 _ .c v.lo)
  case de => exact (s.keeps_setReg8 .d v.hi).trans (State.keeps_setReg8 _ .e v.lo)
  case hl => exact s.keeps_setHl v
  case sp => exact s.keeps_setSp (hw rfl) v

theorem State.keeps_setStackPair {q : StackPair} (hw : q = .af → W .f) (s : State) (v : Word) :
    s.Keeps W (s.setStackPair q v) := by
  cases q
  case bc => exact (s.keeps_setReg8 .b v.hi).trans (State.keeps_setReg8 _ .c v.lo)
  case de => exact (s.keeps_setReg8 .d v.hi).trans (State.keeps_setReg8 _ .e v.lo)
  case hl => exact s.keeps_setHl v
  case af => exact (s.keeps_setReg8 .a v.hi).trans (State.keeps_setF (hw rfl) _ _)

/-! ### Computations -/

/-- Every answer of the computation meets `Q`. -/
def Res.Yields (Q : α → Prop) (x : Res α) : Prop := ∀ a, x = .ok a → Q a

theorem Res.Yields.ok {Q : α → Prop} {a : α} (h : Q a) : Res.Yields Q (.ok a) := by
  intro b hb
  exact Except.ok.inj hb ▸ h

theorem Res.Yields.bind {Q : α → Prop} {Q' : β → Prop} {x : Res α} {g : α → Res β} (hx : Res.Yields Q x)
    (hg : ∀ a, Q a → Res.Yields Q' (g a)) : Res.Yields Q' (x >>= g) := by
  intro b hb
  obtain ⟨a, ha, hb⟩ := Res.bind_eq_ok.1 hb
  exact hg a (hx a ha) b hb

theorem Res.Yields.ite {Q : α → Prop} {c : Prop} [Decidable c] {x y : Res α} (hx : Res.Yields Q x)
    (hy : Res.Yields Q y) : Res.Yields Q (if c then x else y) := by
  split
  · exact hx
  · exact hy

/-- The computation from `s` leaves the parts outside `W`. -/
abbrev State.KeptBy (W : ControlPart → Prop) (s : State) (x : Res State) : Prop := Res.Yields (s.Keeps W) x

/-- The read or handler from `s` leaves the parts outside `W`. -/
abbrev State.KeptByAnswer (W : ControlPart → Prop) (s : State) (x : Res (α × State)) : Prop :=
  Res.Yields (fun p => s.Keeps W p.2) x

theorem busRead_keeps (a : Word) (s : State) : s.KeptByAnswer W (busRead a s) := fun _ h => (busRead_busStep h).keeps

theorem busWrite_keeps (a : Word) (v : Byte) (s : State) : s.KeptBy W (busWrite a v s) :=
  fun _ h => (busWrite_busStep h).keeps

theorem memWrite16_keeps (a w : Word) (s : State) : s.KeptBy W (memWrite16 a w s) :=
  fun _ h => (memWrite16_busStep h).keeps

theorem push16_keeps (hsp : W .sp) (w : Word) (s : State) : s.KeptBy W (push16 w s) :=
  fun _ h => (s.keeps_setSp hsp _).trans (memWrite16_keeps _ w _ _ h)

theorem pop16_keeps (hsp : W .sp) (s : State) : s.KeptByAnswer W (pop16 s) :=
  .bind (fun _ h => (memRead16_busStep h).keeps (W := W)) fun _ hu => .ok (hu.trans (State.keeps_setSp hsp _ _))

theorem callTo_keeps (hsp : W .sp) (w target : Word) (s : State) : s.KeptBy W (callTo w target s) :=
  .bind (push16_keeps hsp w s) fun u hu => .ok (hu.trans (u.keeps_setPc target))

theorem returnFrom_keeps (hsp : W .sp) (s : State) : s.KeptBy W (returnFrom s) :=
  .bind (pop16_keeps hsp s) fun ⟨v, u⟩ hu => .ok (hu.trans (u.keeps_setPc v))

theorem readOperand8_keeps (o : Operand8) (s : State) : s.KeptByAnswer W (readOperand8 o s) := by
  cases o
  case reg r => exact .ok (.refl s)
  case indHl => exact busRead_keeps s.hl s

theorem writeOperand8_keeps (o : Operand8) (v : Byte) (s : State) : s.KeptBy W (writeOperand8 o v s) := by
  cases o
  case reg r => exact .ok (s.keeps_setReg8 r v)
  case indHl => exact busWrite_keeps s.hl v s

theorem readSource_keeps (src : AluSource) (s : State) : s.KeptByAnswer W (readSource src s) := by
  cases src
  case reg r => exact .ok (.refl s)
  case indHl => exact busRead_keeps s.hl s
  case imm n => exact .ok (.refl s)

/-! ### The handlers -/

/-- The handler leaves the parts outside `W`. -/
def Handler.WritesOnly (W : ControlPart → Prop) (handler : Handler) : Prop :=
  ∀ s : State, s.KeptByAnswer W (handler s)

theorem handleLdRegReg_writesOnly (dst src : Reg8) : (handleLdRegReg dst src).WritesOnly W :=
  fun s => .ok (s.keeps_setReg8 dst _)

theorem handleLdRegN8_writesOnly (dst : Reg8) (n : Byte) : (handleLdRegN8 dst n).WritesOnly W :=
  fun s => .ok (s.keeps_setReg8 dst n)

theorem handleLdRegIndHl_writesOnly (dst : Reg8) : (handleLdRegIndHl dst).WritesOnly W :=
  fun s => .bind (busRead_keeps s.hl s) fun ⟨v, u⟩ hu => .ok (hu.trans (u.keeps_setReg8 dst v))

theorem handleLdIndHlReg_writesOnly (src : Reg8) : (handleLdIndHlReg src).WritesOnly W :=
  fun s => .bind (busWrite_keeps s.hl _ s) fun _ hu => .ok hu

theorem handleLdIndHlN8_writesOnly (n : Byte) : (handleLdIndHlN8 n).WritesOnly W :=
  fun s => .bind (busWrite_keeps s.hl n s) fun _ hu => .ok hu

theorem handleLoadA_writesOnly (a : Word) : (handleLoadA a).WritesOnly W :=
  fun s => .bind (busRead_keeps a s) fun ⟨v, u⟩ hu => .ok (hu.trans (u.keeps_setReg8 .a v))

theorem handleStoreA_writesOnly (a : Word) : (handleStoreA a).WritesOnly W :=
  fun s => .bind (busWrite_keeps a s.a s) fun _ hu => .ok hu

theorem handleStoreAMoveHl_writesOnly (delta : Word) : (handleStoreAMoveHl delta).WritesOnly W :=
  fun s => .bind (busWrite_keeps s.hl s.a s) fun u hu => .ok (hu.trans (u.keeps_setHl _))

theorem handleLoadAMoveHl_writesOnly (delta : Word) : (handleLoadAMoveHl delta).WritesOnly W :=
  fun s => .bind (busRead_keeps s.hl s) fun ⟨v, u⟩ hu =>
    .ok ((hu.trans (u.keeps_setReg8 .a v)).trans (State.keeps_setHl _ _))

theorem handleLdPairN16_writesOnly {p : Reg16} (hsp : p = .sp → W .sp) (w : Word) :
    (handleLdPairN16 p w).WritesOnly W :=
  fun s => .ok (s.keeps_setReg16 hsp w)

theorem handleLdIndA16Sp_writesOnly (a : Word) : (handleLdIndA16Sp a).WritesOnly W :=
  fun s => .bind (memWrite16_keeps a s.sp s) fun _ hu => .ok hu

theorem handleLdSpHl_writesOnly (hsp : W .sp) : handleLdSpHl.WritesOnly W :=
  fun s => .ok (s.keeps_setSp hsp s.hl)

theorem handleLdHlSpE8_writesOnly (hf : W .f) (e : Byte) : (handleLdHlSpE8 e).WritesOnly W :=
  fun s => .ok ((s.keeps_setHl _).trans (State.keeps_setFlags hf _ _ _ _ _))

theorem handlePush_writesOnly (hsp : W .sp) (q : StackPair) : (handlePush q).WritesOnly W :=
  fun s => .bind (push16_keeps hsp _ s) fun _ hu => .ok hu

theorem handlePop_writesOnly (hsp : W .sp) {q : StackPair} (hf : q = .af → W .f) : (handlePop q).WritesOnly W :=
  fun s => .bind (pop16_keeps hsp s) fun ⟨v, u⟩ hu => .ok (hu.trans (u.keeps_setStackPair hf v))

theorem handleAlu_writesOnly (hf : W .f) (op : AluOp) (src : AluSource) : (handleAlu op src).WritesOnly W :=
  fun s => .bind (readSource_keeps src s) fun ⟨_, u⟩ hu =>
    .ok ((hu.trans (u.keeps_setReg8 .a _)).trans (State.keeps_setFlags hf _ _ _ _ _))

theorem handleInc8_writesOnly (hf : W .f) (o : Operand8) : (handleInc8 o).WritesOnly W :=
  fun s => .bind (readOperand8_keeps o s) fun ⟨v, u⟩ hu => .bind (writeOperand8_keeps o (v + 1) u) fun w hw =>
    .ok ((hu.trans hw).trans (w.keeps_setFlags hf _ _ _ _))

theorem handleDec8_writesOnly (hf : W .f) (o : Operand8) : (handleDec8 o).WritesOnly W :=
  fun s => .bind (readOperand8_keeps o s) fun ⟨v, u⟩ hu => .bind (writeOperand8_keeps o (v - 1) u) fun w hw =>
    .ok ((hu.trans hw).trans (w.keeps_setFlags hf _ _ _ _))

theorem handleDaa_writesOnly (hf : W .f) : handleDaa.WritesOnly W :=
  fun s => .ok ((s.keeps_setReg8 .a _).trans (State.keeps_setFlags hf _ _ _ _ _))

theorem handleCpl_writesOnly (hf : W .f) : handleCpl.WritesOnly W :=
  fun s => .ok ((s.keeps_setReg8 .a _).trans (State.keeps_setFlags hf _ _ _ _ _))

theorem handleScf_writesOnly (hf : W .f) : handleScf.WritesOnly W := fun s => .ok (s.keeps_setFlags hf _ _ _ _)

theorem handleCcf_writesOnly (hf : W .f) : handleCcf.WritesOnly W := fun s => .ok (s.keeps_setFlags hf _ _ _ _)

theorem handleAddHl_writesOnly (hf : W .f) (p : Reg16) : (handleAddHl p).WritesOnly W :=
  fun s => .ok ((s.keeps_setHl _).trans (State.keeps_setFlags hf _ _ _ _ _))

theorem handleInc16_writesOnly {p : Reg16} (hsp : p = .sp → W .sp) : (handleInc16 p).WritesOnly W :=
  fun s => .ok (s.keeps_setReg16 hsp _)

theorem handleDec16_writesOnly {p : Reg16} (hsp : p = .sp → W .sp) : (handleDec16 p).WritesOnly W :=
  fun s => .ok (s.keeps_setReg16 hsp _)

theorem handleAddSpE8_writesOnly (hsp : W .sp) (hf : W .f) (e : Byte) : (handleAddSpE8 e).WritesOnly W :=
  fun s => .ok ((s.keeps_setSp hsp _).trans (State.keeps_setFlags hf _ _ _ _ _))

theorem handleJp_writesOnly (target : Word) : (handleJp target).WritesOnly W := fun s => .ok (s.keeps_setPc target)

theorem handleJpCond_writesOnly (cc : Cond) (target : Word) : (handleJpCond cc target).WritesOnly W :=
  fun s => .ite (.ok (s.keeps_setPc target)) (.ok (.refl s))

theorem handleJr_writesOnly (e : Byte) : (handleJr e).WritesOnly W := fun s => .ok (s.keeps_setPc _)

theorem handleJrCond_writesOnly (cc : Cond) (e : Byte) : (handleJrCond cc e).WritesOnly W :=
  fun s => .ite (.ok (s.keeps_setPc _)) (.ok (.refl s))

theorem handleCall_writesOnly (hsp : W .sp) (target : Word) : (handleCall target).WritesOnly W :=
  fun s => .bind (callTo_keeps hsp _ target s) fun _ hu => .ok hu

theorem handleCallCond_writesOnly (hsp : W .sp) (cc : Cond) (target : Word) : (handleCallCond cc target).WritesOnly W :=
  fun s => .ite (.bind (callTo_keeps hsp _ target s) fun _ hu => .ok hu) (.ok (.refl s))

theorem handleRet_writesOnly (hsp : W .sp) : handleRet.WritesOnly W :=
  fun s => .bind (returnFrom_keeps hsp s) fun _ hu => .ok hu

theorem handleRetCond_writesOnly (hsp : W .sp) (cc : Cond) : (handleRetCond cc).WritesOnly W :=
  fun s => .ite (.bind (returnFrom_keeps hsp s) fun _ hu => .ok hu) (.ok (.refl s))

theorem returnFromInterrupt_keeps (hsp : W .sp) (hime : W .ime) (hei : W .eiDelay) (s : State) :
    s.KeptBy W (returnFromInterrupt s) :=
  .bind (pop16_keeps hsp s) fun ⟨v, u⟩ hu =>
    .ok (((hu.trans (u.keeps_setPc v)).trans (State.keeps_setIme hime _ _)).trans (State.keeps_setEiDelay hei _ _))

theorem handleReti_writesOnly (hsp : W .sp) (hime : W .ime) (hei : W .eiDelay) : handleReti.WritesOnly W :=
  fun s => .bind (returnFromInterrupt_keeps hsp hime hei s) fun _ hu => .ok hu

theorem handleRst_writesOnly (hsp : W .sp) (x : RstTarget) : (handleRst x).WritesOnly W :=
  fun s => .bind (callTo_keeps hsp _ _ s) fun _ hu => .ok hu

theorem handleRotateA_writesOnly (hf : W .f) (op : ShiftOp) : (handleRotateA op).WritesOnly W :=
  fun s => .ok ((s.keeps_setReg8 .a _).trans (State.keeps_setFlags hf _ _ _ _ _))

theorem handleShift_writesOnly (hf : W .f) (op : ShiftOp) (o : Operand8) : (handleShift op o).WritesOnly W :=
  fun s => .bind (readOperand8_keeps o s) fun ⟨_, u⟩ hu => .bind (writeOperand8_keeps o _ u) fun w hw =>
    .ok ((hu.trans hw).trans (w.keeps_setFlags hf _ _ _ _))

theorem handleBit_writesOnly (hf : W .f) (b : BitIndex) (o : Operand8) : (handleBit b o).WritesOnly W :=
  fun s => .bind (readOperand8_keeps o s) fun ⟨_, u⟩ hu => .ok (hu.trans (u.keeps_setFlags hf _ _ _ _))

theorem handleRes_writesOnly (b : BitIndex) (o : Operand8) : (handleRes b o).WritesOnly W :=
  fun s => .bind (readOperand8_keeps o s) fun ⟨_, u⟩ hu => .bind (writeOperand8_keeps o _ u) fun _ hw =>
    .ok (hu.trans hw)

theorem handleSet_writesOnly (b : BitIndex) (o : Operand8) : (handleSet b o).WritesOnly W :=
  fun s => .bind (readOperand8_keeps o s) fun ⟨_, u⟩ hu => .bind (writeOperand8_keeps o _ u) fun _ hw =>
    .ok (hu.trans hw)

theorem handleNop_writesOnly : handleNop.WritesOnly W := fun s => .ok (.refl s)

theorem handleHalt_writesOnly (hhalted : W .halted) : handleHalt.WritesOnly W := by
  intro s
  unfold handleHalt
  cases s.config.haltModel
  case nop => exact .ok (.refl s)
  case stop => exact .ite (fun _ h => nomatch h) (.ok (s.keeps_setHalted hhalted true))

theorem handleStop_writesOnly (hstopped : W .stopped) : handleStop.WritesOnly W := by
  intro s
  unfold handleStop
  cases s.config.haltModel
  case nop => exact .ok (.refl s)
  case stop => exact .ok (s.keeps_setStopped hstopped true)

theorem handleDi_writesOnly (hime : W .ime) (hei : W .eiDelay) : handleDi.WritesOnly W :=
  fun s => .ok ((s.keeps_setIme hime false).trans (State.keeps_setEiDelay hei _ false))

theorem handleEi_writesOnly (hei : W .eiDelay) : handleEi.WritesOnly W := fun s => .ok (s.keeps_setEiDelay hei true)

/-! ### Every instruction -/

/-- The writers of F (R40). -/
inductive WritesF : Instr → Prop where
  | alu (op : AluOp) (src : AluSource) : WritesF (Instr.alu op src)
  | inc8 (o : Operand8) : WritesF (Instr.inc8 o)
  | dec8 (o : Operand8) : WritesF (Instr.dec8 o)
  | daa : WritesF .daa
  | cpl : WritesF .cpl
  | scf : WritesF .scf
  | ccf : WritesF .ccf
  | rlca : WritesF .rlca
  | rrca : WritesF .rrca
  | rla : WritesF .rla
  | rra : WritesF .rra
  | addHl (p : Reg16) : WritesF (Instr.addHl p)
  | addSpE8 (e : Byte) : WritesF (.addSpE8 e)
  | ldHlSpE8 (e : Byte) : WritesF (.ldHlSpE8 e)
  | shift (op : ShiftOp) (o : Operand8) : WritesF (Instr.shift op o)
  | bit (b : BitIndex) (o : Operand8) : WritesF (Instr.bit b o)
  | popAf : WritesF .popAf

/-- The writers of SP (R33). -/
inductive WritesSp : Instr → Prop where
  | ldSpN16 (n : Word) : WritesSp (.ldSpN16 n)
  | ldSpHl : WritesSp .ldSpHl
  | addSpE8 (e : Byte) : WritesSp (.addSpE8 e)
  | incSp : WritesSp .incSp
  | decSp : WritesSp .decSp
  | push (q : StackPair) : WritesSp (Instr.push q)
  | pop (q : StackPair) : WritesSp (Instr.pop q)
  | callA16 (a : Word) : WritesSp (.callA16 a)
  | callCond (cc : Cond) (a : Word) : WritesSp (Instr.callCond cc a)
  | rst (x : RstTarget) : WritesSp (Instr.rst x)
  | ret : WritesSp .ret
  | retCond (cc : Cond) : WritesSp (Instr.retCond cc)
  | reti : WritesSp .reti

/-- Whether the lists of R33 and R40 to R43 let the instruction write a part. -/
def MayWrite (i : Instr) : ControlPart → Prop
  | .f => WritesF i
  | .sp => WritesSp i
  | .ime => i = .di ∨ i = .reti
  | .eiDelay => i = .ei ∨ i = .di ∨ i = .reti
  | .halted => i = .halt
  | .stopped => i = .stop

/-- The instruction, where it completes, leaves every part it is not listed as writing. -/
def WritesListedOnly (i : Instr) : Prop := ∀ s t, exec i s = .next t → s.Keeps (MayWrite i) t

/-- The charge and the PC advance write no listed part. -/
theorem WritesListedOnly.of_handler {i : Instr} {d : Descriptor} {handler : State → Handler}
    (hexec : ∀ s, exec i s = perform d (handler s) s)
    (hhandler : ∀ s : State, s.KeptByAnswer (MayWrite i) (handler s s)) : WritesListedOnly i := by
  intro s t h
  rw [hexec] at h
  obtain ⟨o, u, hu, rfl⟩ := perform_eq_next.1 h
  refine (hhandler s _ hu).trans ?_
  rw [applyOutcome_frame]
  exact ⟨fun _ => rfl, fun _ => rfl, fun _ => rfl, fun _ => rfl, fun _ => rfl, fun _ => rfl⟩

theorem exec_writesListedOnly (i : Instr) : WritesListedOnly i := by
  apply Instr.byFamily (P := WritesListedOnly)
  case ldRegReg => exact fun dst src => .of_handler (exec_ldRegReg dst src) (handleLdRegReg_writesOnly dst src)
  case ldRegN8 => exact fun dst n => .of_handler (exec_ldRegN8 dst n) (handleLdRegN8_writesOnly dst n)
  case ldRegIndHl => exact fun dst => .of_handler (exec_ldRegIndHl dst) (handleLdRegIndHl_writesOnly dst)
  case ldIndHlReg => exact fun src => .of_handler (exec_ldIndHlReg src) (handleLdIndHlReg_writesOnly src)
  case ldPairN16 =>
    exact fun p n => .of_handler (exec_ldPairN16 p n) (handleLdPairN16_writesOnly (by rintro rfl; exact .ldSpN16 n) n)
  case push => exact fun q => .of_handler (exec_push q) (handlePush_writesOnly (.push q) q)
  case pop => exact fun q => .of_handler (exec_pop q) (handlePop_writesOnly (.pop q) (by rintro rfl; exact .popAf))
  case alu => exact fun op src => .of_handler (exec_alu op src) (handleAlu_writesOnly (.alu op src) op src)
  case inc8 => exact fun o => .of_handler (exec_inc8 o) (handleInc8_writesOnly (.inc8 o) o)
  case dec8 => exact fun o => .of_handler (exec_dec8 o) (handleDec8_writesOnly (.dec8 o) o)
  case addHl => exact fun p => .of_handler (exec_addHl p) (handleAddHl_writesOnly (.addHl p) p)
  case inc16 => exact fun p => .of_handler (exec_inc16 p) (handleInc16_writesOnly (by rintro rfl; exact .incSp))
  case dec16 => exact fun p => .of_handler (exec_dec16 p) (handleDec16_writesOnly (by rintro rfl; exact .decSp))
  case shift => exact fun op o => .of_handler (exec_shift op o) (handleShift_writesOnly (.shift op o) op o)
  case bit => exact fun b o => .of_handler (exec_bit b o) (handleBit_writesOnly (.bit b o) b o)
  case res => exact fun b o => .of_handler (exec_res b o) (handleRes_writesOnly b o)
  case set => exact fun b o => .of_handler (exec_set b o) (handleSet_writesOnly b o)
  case jpCond => exact fun cc a => .of_handler (exec_jpCond cc a) (handleJpCond_writesOnly cc a)
  case jrCond => exact fun cc e => .of_handler (exec_jrCond cc e) (handleJrCond_writesOnly cc e)
  case callCond => exact fun cc a => .of_handler (exec_callCond cc a) (handleCallCond_writesOnly (.callCond cc a) cc a)
  case retCond => exact fun cc => .of_handler (exec_retCond cc) (handleRetCond_writesOnly (.retCond cc) cc)
  case rst => exact fun t => .of_handler (exec_rst t) (handleRst_writesOnly (.rst t) t)
  case nop => exact .of_handler exec_nop handleNop_writesOnly
  case ldIndBcA => exact .of_handler exec_ldIndBcA (fun s => handleStoreA_writesOnly s.bc s)
  case rlca => exact .of_handler exec_rlca (handleRotateA_writesOnly .rlca .rlc)
  case ldIndA16Sp => exact fun n => .of_handler (exec_ldIndA16Sp n) (handleLdIndA16Sp_writesOnly n)
  case ldAIndBc => exact .of_handler exec_ldAIndBc (fun s => handleLoadA_writesOnly s.bc s)
  case rrca => exact .of_handler exec_rrca (handleRotateA_writesOnly .rrca .rrc)
  case stop => exact .of_handler exec_stop (handleStop_writesOnly rfl)
  case ldIndDeA => exact .of_handler exec_ldIndDeA (fun s => handleStoreA_writesOnly s.de s)
  case rla => exact .of_handler exec_rla (handleRotateA_writesOnly .rla .rl)
  case jrE8 => exact fun n => .of_handler (exec_jrE8 n) (handleJr_writesOnly n)
  case ldAIndDe => exact .of_handler exec_ldAIndDe (fun s => handleLoadA_writesOnly s.de s)
  case rra => exact .of_handler exec_rra (handleRotateA_writesOnly .rra .rr)
  case ldIndHlIncA => exact .of_handler exec_ldIndHlIncA (handleStoreAMoveHl_writesOnly 1)
  case daa => exact .of_handler exec_daa (handleDaa_writesOnly .daa)
  case ldAIndHlInc => exact .of_handler exec_ldAIndHlInc (handleLoadAMoveHl_writesOnly 1)
  case cpl => exact .of_handler exec_cpl (handleCpl_writesOnly .cpl)
  case ldIndHlDecA => exact .of_handler exec_ldIndHlDecA (handleStoreAMoveHl_writesOnly (-1))
  case ldIndHlN8 => exact fun n => .of_handler (exec_ldIndHlN8 n) (handleLdIndHlN8_writesOnly n)
  case scf => exact .of_handler exec_scf (handleScf_writesOnly .scf)
  case ldAIndHlDec => exact .of_handler exec_ldAIndHlDec (handleLoadAMoveHl_writesOnly (-1))
  case ccf => exact .of_handler exec_ccf (handleCcf_writesOnly .ccf)
  case halt => exact .of_handler exec_halt (handleHalt_writesOnly rfl)
  case jpA16 => exact fun n => .of_handler (exec_jpA16 n) (handleJp_writesOnly n)
  case ret => exact .of_handler exec_ret (handleRet_writesOnly .ret)
  case callA16 => exact fun n => .of_handler (exec_callA16 n) (handleCall_writesOnly (.callA16 n) n)
  case reti => exact .of_handler exec_reti (handleReti_writesOnly .reti (.inr rfl) (.inr (.inr rfl)))
  case ldhIndA8A => exact fun n => .of_handler (exec_ldhIndA8A n) (handleStoreA_writesOnly (highPage n))
  case ldIndCA => exact .of_handler exec_ldIndCA (fun s => handleStoreA_writesOnly (highPage s.c) s)
  case addSpE8 => exact fun n => .of_handler (exec_addSpE8 n) (handleAddSpE8_writesOnly (.addSpE8 n) (.addSpE8 n) n)
  case jpHl => exact .of_handler exec_jpHl (fun s => handleJp_writesOnly s.hl s)
  case ldIndA16A => exact fun n => .of_handler (exec_ldIndA16A n) (handleStoreA_writesOnly n)
  case ldhAIndA8 => exact fun n => .of_handler (exec_ldhAIndA8 n) (handleLoadA_writesOnly (highPage n))
  case ldAIndC => exact .of_handler exec_ldAIndC (fun s => handleLoadA_writesOnly (highPage s.c) s)
  case di => exact .of_handler exec_di (handleDi_writesOnly (.inl rfl) (.inr (.inl rfl)))
  case ldHlSpE8 => exact fun n => .of_handler (exec_ldHlSpE8 n) (handleLdHlSpE8_writesOnly (.ldHlSpE8 n) n)
  case ldSpHl => exact .of_handler exec_ldSpHl (handleLdSpHl_writesOnly .ldSpHl)
  case ldAIndA16 => exact fun n => .of_handler (exec_ldAIndA16 n) (handleLoadA_writesOnly n)
  case ei => exact .of_handler exec_ei (handleEi_writesOnly (.inl rfl))

/-- Settles O54: the control latches are among the parts whose writers are listed. -/
theorem onlySystemInstructionsWriteControlLatches : Obligations.OnlySystemInstructionsWriteControlLatches := by
  intro i s t h
  obtain ⟨-, -, hime, hei, hhalted, hstopped⟩ := exec_writesListedOnly i s t h
  exact ⟨fun hdi hreti => hime (not_or.2 ⟨hdi, hreti⟩),
    fun he hdi hreti => hei (not_or.2 ⟨he, not_or.2 ⟨hdi, hreti⟩⟩), hhalted, hstopped⟩

/-- Settles O55: each writer of R40 is excluded by one of the hypotheses. -/
theorem onlyTheListedInstructionsWriteFlags : Obligations.OnlyTheListedInstructionsWriteFlags := by
  intro i s t h halu hincDec hsingle haddHl hspOffset hshift hbit
  refine (exec_writesListedOnly i s t h).f fun hw => ?_
  cases hw
  case alu op src => exact halu op src rfl
  case inc8 o => exact (hincDec o).1 rfl
  case dec8 o => exact (hincDec o).2 rfl
  case addHl p => exact haddHl p rfl
  case addSpE8 e => exact (hspOffset e).1 rfl
  case ldHlSpE8 e => exact (hspOffset e).2 rfl
  case shift op o => exact hshift op o rfl
  case bit b o => exact hbit b o rfl
  all_goals exact hsingle (by decide)

/-- Settles O56: each writer of R33 is excluded by one of the hypotheses. -/
theorem onlyTheListedInstructionsWriteSp : Obligations.OnlyTheListedInstructionsWriteSp := by
  intro i s t h hload hoffset hsingle hstack hcall hcallCond hretCond hrst
  refine (exec_writesListedOnly i s t h).sp fun hw => ?_
  cases hw
  case ldSpN16 n => exact hload n rfl
  case addSpE8 e => exact hoffset e rfl
  case push q => exact (hstack q).1 rfl
  case pop q => exact (hstack q).2 rfl
  case callA16 a => exact hcall a rfl
  case callCond cc a => exact hcallCond cc a rfl
  case retCond cc => exact hretCond cc rfl
  case rst x => exact hrst x rfl
  all_goals exact hsingle (by decide)

/-! ### EI's delay -/

theorem exec_ei_eiDelay (h : exec .ei s = .next t) : t.eiDelay = true := by
  rw [exec_ei, perform_of_ok (u := s.setEiDelay true) rfl] at h
  exact Host.Outcome.next.inj h ▸ rfl

theorem exec_di_eiDelay (h : exec .di s = .next t) : t.eiDelay = false := by
  rw [exec_di, perform_of_ok (u := (s.setIme false).setEiDelay false) rfl] at h
  exact Host.Outcome.next.inj h ▸ rfl

theorem exec_reti_eiDelay (h : exec .reti s = .next t) : t.eiDelay = false := by
  rw [exec_reti] at h
  obtain ⟨o, u, hu, rfl⟩ := perform_eq_next.1 h
  have hdelay : Res.Yields (fun p => p.2.eiDelay = false) (handleReti s) :=
    .bind (Q := fun u => u.eiDelay = false) (.bind (Q := fun _ => True) (fun _ _ => trivial) fun _ _ => .ok rfl)
      fun _ hr => .ok hr
  rw [applyOutcome_frame]
  exact hdelay _ hu

/-- DI and RETI clear the latch; every other instruction leaves it set or sets it (R42). -/
theorem exec_eiDelay_of_set {i : Instr} (hset : s.eiDelay = true) (h : exec i s = .next t) :
    t.eiDelay = true ↔ ¬ (i = .di ∨ i = .reti) := by
  by_cases hi : i = .di ∨ i = .reti
  · have hclear : t.eiDelay = false := by
      obtain rfl | rfl := hi
      · exact exec_di_eiDelay h
      · exact exec_reti_eiDelay h
    simp [hclear, hi]
  · have hkept : t.eiDelay = true := by
      by_cases hei : i = .ei
      · subst hei
        exact exec_ei_eiDelay h
      · exact ((exec_writesListedOnly i s t h).eiDelay (not_or.2 ⟨hei, hi⟩)).trans hset
    simp [hkept, hi]

/-- Settles O52: the latch is still set at the end of the step exactly when IME is still to be set (R160 step 7). -/
theorem eiTakesEffectAfterTheNextInstruction : Obligations.EiTakesEffectAfterTheNextInstruction := by
  intro s u t i hruns hset hfetch hexec
  have hu : u.eiDelay = true := by rw [fetchInstr_frame hfetch]; exact hset
  have hpromote : promoteEi true t = if i = .di ∨ i = .reti then t else { t with ime := true, eiDelay := false } := by
    have hdelay := exec_eiDelay_of_set hu hexec
    unfold promoteEi
    by_cases hi : i = .di ∨ i = .reti
    · rw [if_pos hi, if_neg (by simpa [hi] using hdelay)]
    · rw [if_neg hi, if_pos (by simpa [hi] using hdelay)]
      rfl
  rw [step_of_runs hruns, runInstruction_eq_next]
  exact ⟨i, u, t, hfetch, hexec, by rw [hset, hpromote]⟩

end Sys2Proof.Machine
end

section
/-! The reset state, and the layout of the register pairs and of F (R31, R32, R38, R452). -/

namespace Sys2Proof

/-! ### Nibbles -/

theorem Byte.and_lowNibble_toNat (v : Byte) : (v &&& 0x0F).toNat = v.toNat % 16 :=
  (BitVec.toNat_and v 0x0F).trans (Nat.and_two_pow_sub_one_eq_mod v.toNat 4)

/-- The two nibbles share no bit and together are the byte. -/
theorem Byte.and_highNibble_toNat (v : Byte) : (v &&& 0xF0).toNat = v.toNat - v.toNat % 16 := by
  have hdisjoint : (v &&& 0xF0) &&& (v &&& 0x0F) = 0 :=
    calc (v &&& 0xF0) &&& (v &&& 0x0F) = (v &&& v) &&& (0xF0 &&& 0x0F) := by ac_rfl
      _ = 0 := BitVec.and_zero
  have htogether : (v &&& 0xF0) + (v &&& 0x0F) = v := by
    rw [BitVec.add_eq_or_of_and_eq_zero _ _ hdisjoint, ← BitVec.and_or_distrib_left]
    exact BitVec.and_allOnes
  have hsum := BitVec.toNat_add_of_and_eq_zero hdisjoint
  rw [htogether, Byte.and_lowNibble_toNat] at hsum
  omega

/-- Masking AF's low nibble masks its low byte alone (R32). -/
theorem Word.ofBytes_hi_maskedLo (v : Word) : Word.ofBytes v.hi (v.lo &&& 0xF0) = v &&& 0xFFF0 := by
  have hhi : (v &&& 0xFFF0).hi = v.hi :=
    BitVec.extractLsb'_and.trans BitVec.and_allOnes
  have hlo : (v &&& 0xFFF0).lo = v.lo &&& 0xF0 := BitVec.extractLsb'_and
  rw [← hhi, ← hlo, Word.ofBytes_hi_lo]

end Sys2Proof

namespace Sys2Proof.Machine

/-! ### Reset -/

theorem State.reset_inv : State.reset.Inv where
  mem_wf := State.reset_canonical.1
  cart_wf := rfl
  bios_wf := fun _ h => nomatch h
  cells := State.reset_canonical.2
  lowNibble := rfl

/-- Settles O2. The reference parameters have no interrupts, so the check before the fetch does nothing (R410). -/
theorem resetMeetsInvariantAndIsAccepted : Obligations.ResetMeetsInvariantAndIsAccepted :=
  ⟨State.reset_inv, rfl, rfl, rfl, rfl⟩

/-! ### F -/

theorem flagBits_toNat : ∀ z n h cy : Bool,
    (flagBits z n h cy).toNat = 2 ^ 4 * (8 * z.toNat + 4 * n.toNat + 2 * h.toNat + cy.toNat) := by decide

theorem State.setFlags_f_toNat (s : State) (z n h cy : Bool) :
    (s.setFlags z n h cy).f.toNat =
      2 ^ 4 * (8 * z.toNat + 4 * n.toNat + 2 * h.toNat + cy.toNat) + s.f.toNat % 16 := by
  have hlow : s.f.toNat % 16 < 2 ^ 4 := Nat.mod_lt _ (by decide)
  rw [Nat.two_pow_add_eq_or_of_lt hlow, ← flagBits_toNat, ← Byte.and_lowNibble_toNat]
  exact BitVec.toNat_or ..

/-- Settles O5: a flag is a bit of F, and the low nibble lies below the bits a flag update writes. -/
theorem flagBitsOfF : Obligations.FlagBitsOfF := by
  intro s z n h cy
  have hbit (k : Nat) : s.f.getLsbD k = decide (s.f.toNat / 2 ^ k % 2 = 1) := Nat.testBit_eq_decide_div_mod_eq
  refine ⟨hbit 7, hbit 6, hbit 5, hbit 4, ?_⟩
  rw [State.setFlags_f_toNat]
  omega

/-! ### The pairs -/

theorem State.reg16_setReg16_same (s : State) (p : Reg16) (v : Word) : (s.setReg16 p v).reg16 p = v := by
  cases p
  case sp => rfl
  all_goals exact Word.ofBytes_hi_lo v

theorem State.stackPair_setStackPair_same (s : State) (q : StackPair) (v : Word) :
    (s.setStackPair q v).stackPair q = if q = .af then v &&& 0xFFF0 else v := by
  cases q
  case af =>
    have hmask : (v.lo &&& 0xF0) &&& 0xF0 = v.lo &&& 0xF0 := by rw [BitVec.and_assoc, BitVec.and_self]
    show Word.ofBytes v.hi ((v.lo &&& 0xF0) &&& 0xF0) = v &&& 0xFFF0
    rw [hmask, Word.ofBytes_hi_maskedLo]
  all_goals exact Word.ofBytes_hi_lo v

/-- Settles O4: a pair is its two halves, so a write of it is a write of them. -/
theorem registerPairsAreViews : Obligations.RegisterPairsAreViews := by
  intro s v
  have haf : (s.stackPair .af).toNat = s.a.toNat * 256 + (s.f.toNat - s.f.toNat % 16) := by
    rw [← Byte.and_highNibble_toNat]
    exact Word.ofBytes_toNat s.a s.readF
  exact ⟨Word.ofBytes_toNat .., Word.ofBytes_toNat .., Word.ofBytes_toNat .., rfl, haf,
    fun p => s.reg16_setReg16_same p v, fun q => s.stackPair_setStackPair_same q v, rfl, rfl, rfl, rfl, rfl⟩

end Sys2Proof.Machine
end

section
/-! The accesses of 20_memory.md by row of the routing table: the stores whose byte is the cell of `cellOf`, the overlay, and
one equation for each read and write tap; then the statements about routing (R70, R71, R76, R80 to R92). -/

namespace Sys2Proof.Machine

variable {cfg : Config} {s : State} {a : Word} {v : Byte}

/-! ### The stores -/

/-- The rows whose byte is the cell of `cellOf` in `mem`, the I/O block apart. -/
def storeRows : List Region := [.vram, .extRam, .wram, .echo, .oam, .hram]

theorem regionOf_stores (h : 0x8000 ≤ a.toNat) (h' : a.toNat ≤ 0xFDFE) : regionOf cfg a ∈ storeRows := by
  by_cases hvram : a.toNat ≤ 0x9FFF
  · rw [regionOf_vram h hvram]; decide
  by_cases hext : a.toNat ≤ 0xBFFF
  · rw [regionOf_extRam (by omega) hext]; decide
  by_cases hwram : a.toNat ≤ 0xDFFF
  · rw [regionOf_wram (by omega) hwram]; decide
  · rw [regionOf_echo (by omega) h']; decide

theorem toNat_of_echo (h : regionOf cfg a = .echo) : 0xE000 ≤ a.toNat := by
  unfold regionOf at h
  iterate 5 obtain ⟨_, h⟩ := ite_else h (by decide)
  omega

theorem cellOf_of_echo (h : regionOf cfg a = .echo) : cellOf cfg a = echoKey cfg a := if_pos h

theorem cellOf_separate (h : cfg.echoMode = .separate) : cellOf cfg a = a.toNat := by
  unfold cellOf echoKey
  simp [h]

theorem storeRows_cases (h : regionOf cfg a ∈ storeRows) :
    regionOf cfg a = .echo ∨
      (regionOf cfg a ∈ [Region.vram, .extRam, .wram, .oam, .hram] ∧ cellOf cfg a = a.toNat) := by
  by_cases he : regionOf cfg a = .echo
  · exact .inl he
  · refine .inr ⟨?_, cellOf_of_not_echo he⟩
    simpa [storeRows, he] using h

theorem busRead_store (h : regionOf s.config a ∈ storeRows) :
    busRead a s = .ok (s.mem.read (cellOf s.config a), s) := by
  obtain he | ⟨hr, hcell⟩ := storeRows_cases h
  · rw [cellOf_of_echo he, busRead_echo he]
  · rw [hcell, busRead_cell hr]

theorem busWrite_store (h : regionOf s.config a ∈ storeRows) :
    busWrite a v s = .ok (s.setMem (s.mem.write (cellOf s.config a) v)) := by
  obtain he | ⟨hr, hcell⟩ := storeRows_cases h
  · rw [cellOf_of_echo he, busWrite_echo he]
  · rw [hcell, busWrite_cell hr]

/-! ### The overlay and the dropped writes -/

theorem busRead_overlay_cart (h : a.toNat ≤ 0x00FF) (hl : s.bootLatch = true) :
    busRead a s = .ok (s.cart.read a.toNat, s) := by
  have hr := regionOf_overlay (cfg := s.config).2 h
  exact busRead_not_io (by rw [hr]; decide) (by unfold State.peek; rw [hr]; exact if_pos hl)

theorem busRead_overlay_bios {bios : Memory} (h : a.toNat ≤ 0x00FF) (hl : s.bootLatch = false)
    (hb : s.bios = some bios) : busRead a s = .ok (bios.read a.toNat, s) := by
  have hr := regionOf_overlay (cfg := s.config).2 h
  exact busRead_not_io (by rw [hr]; decide) (by unfold State.peek; simp [hr, hl, hb])

theorem busRead_overlay_absent (h : a.toNat ≤ 0x00FF) (hl : s.bootLatch = false) (hb : s.bios = none) :
    busRead a s = .error (.fault (.biosAbsent a)) :=
  busRead_eq_error.2 ⟨fun hr => hr ⟨h, hl, hb⟩, rfl⟩

theorem busWrite_rom (h : a.toNat ≤ 0x7FFF) : busWrite a v s = .ok s := by
  by_cases hlow : a.toNat ≤ 0x00FF
  · exact busWrite_dropped (by rw [regionOf_overlay.2 hlow]; decide)
  · exact busWrite_dropped (by rw [regionOf_cart (by omega) h]; decide)

/-! ### The read taps (R80, R82, R89, R90) -/

theorem regionOf_tapInBlock (h : tapInBlock a = true) : regionOf cfg a = .io := by
  simp only [tapInBlock, Bool.and_eq_true, decide_eq_true_eq] at h
  obtain ⟨⟨hlow, hhigh⟩, hif⟩ := h
  exact regionOf_io hlow hhigh hif

theorem readTapOf_raw {t : TapAddr} (h : a ∉ [t.keypad, t.lcdc, t.scy, t.scx, t.ly]) : readTapOf t a = .raw := by
  simp only [List.mem_cons, List.not_mem_nil, or_false, not_or] at h
  simp [readTapOf, h]

section
variable (hr : regionOf s.config a = .io)
include hr

theorem busRead_keypad (ht : readTapOf s.config.taps a = .keypad) : busRead a s = .ok (0xFF, s) := by
  rw [busRead_io hr]
  simp [State.ioPeek, State.afterRead, State.readDraws, hr, ht]

theorem busRead_lcdc (ht : readTapOf s.config.taps a = .lcdc) (hback : s.config.lcdcReadback = .stored) :
    busRead a s = .ok (s.gpu.lcdc, s) := by
  rw [busRead_io hr]
  simp [State.ioPeek, State.afterRead, State.readDraws, hr, ht, hback]

theorem busRead_scy (ht : readTapOf s.config.taps a = .scy) : busRead a s = .ok (s.gpu.scrollY, s) := by
  rw [busRead_io hr]
  simp [State.ioPeek, State.afterRead, State.readDraws, hr, ht]

theorem busRead_scx (ht : readTapOf s.config.taps a = .scx) : busRead a s = .ok (s.gpu.scrollX, s) := by
  rw [busRead_io hr]
  simp [State.ioPeek, State.afterRead, State.readDraws, hr, ht]

/-- The draw of `current_scanline` (log 6). -/
theorem busRead_ly (ht : readTapOf s.config.taps a = .ly) :
    busRead a s = .ok (Config.freeScanline s.draws, s.nextDraw) := by
  rw [busRead_io hr]
  simp [State.ioPeek, State.afterRead, State.readDraws, hr, ht]

theorem busRead_ioRaw (ht : readTapOf s.config.taps a = .raw) : busRead a s = .ok (s.mem.read a.toNat, s) := by
  rw [busRead_io hr]
  simp [State.ioPeek, State.afterRead, State.readDraws, hr, ht]

end

/-! ### The write taps (R80, R83 to R88, R93) -/

theorem writeTapOf_raw {t : TapAddr} (h : a ∉ [t.boot, t.keypad, t.lcdc, t.scy, t.scx, t.bgp, t.dma]) :
    writeTapOf t a = .raw := by
  simp only [List.mem_cons, List.not_mem_nil, or_false, not_or] at h
  simp [writeTapOf, h]

/-- The state after the first part of a write to the I/O block: the raw byte stored (R93). -/
def State.rawStored (s : State) (a : Word) (v : Byte) : State := s.setMem (s.mem.write a.toNat v)

theorem ioWrite_boot (h : writeTapOf s.config.taps a = .boot) :
    ioWrite a v s = .ok ((s.rawStored a v).setBootLatch true) := by
  simp [ioWrite, State.rawStored, h]

theorem ioWrite_keypad (h : writeTapOf s.config.taps a = .keypad) :
    ioWrite a v s = .ok ((s.rawStored a v).setKeypadStub v) := by
  simp [ioWrite, State.rawStored, h]

theorem ioWrite_lcdc (h : writeTapOf s.config.taps a = .lcdc) :
    ioWrite a v s = .ok ((s.rawStored a v).setGpu { s.gpu with lcdc := v }) := by
  simp [ioWrite, State.rawStored, h]

theorem ioWrite_scy (h : writeTapOf s.config.taps a = .scy) :
    ioWrite a v s = .ok ((s.rawStored a v).setGpu { s.gpu with scrollY := v }) := by
  simp [ioWrite, State.rawStored, h]

theorem ioWrite_scx (h : writeTapOf s.config.taps a = .scx) :
    ioWrite a v s = .ok ((s.rawStored a v).setGpu { s.gpu with scrollX := v }) := by
  simp [ioWrite, State.rawStored, h]

theorem ioWrite_bgp (h : writeTapOf s.config.taps a = .bgp) :
    ioWrite a v s = .ok ((s.rawStored a v).setGpu { s.gpu with bgpal := v }) := by
  simp [ioWrite, State.rawStored, h]

theorem ioWrite_dma (h : writeTapOf s.config.taps a = .dma) : ioWrite a v s = dmaCopy v (s.rawStored a v) := by
  simp [ioWrite, State.rawStored, h]

theorem ioWrite_raw (h : writeTapOf s.config.taps a = .raw) : ioWrite a v s = .ok (s.rawStored a v) := by
  simp [ioWrite, State.rawStored, h]

/-! ### Routing -/

/-- Settles O6: each clause is the equation of its row or tap. -/
theorem busReadRouting : Obligations.BusReadRouting := by
  intro s a hmap hecho hlcdc htaps
  have hcell : cellOf s.config a = a.toNat := cellOf_separate hecho
  have hstore (hr : regionOf s.config a ∈ storeRows) : busRead a s = .ok (s.mem.read a.toNat, s) := by
    rw [busRead_store hr, hcell]
  have htap {b : Word} {r : ReadTap} (h : readTapOf .reference b = r) : readTapOf s.config.taps b = r := htaps ▸ h
  refine ⟨busRead_overlay_absent, fun _ => busRead_overlay_bios, busRead_overlay_cart,
    fun h h' => busRead_cart (regionOf_cart h h'), fun h h' => hstore (regionOf_stores h h'),
    fun h h' => hstore (by rw [regionOf_oam h h']; decide),
    fun h h' => busRead_zero (by rw [regionOf_unusable h h']; decide),
    ?ifReg, ?keypad, ?lcdc, ?scy, ?scx, ?ly, ?raw, fun h h' => hstore (by rw [regionOf_hram h h']; decide), ?ieReg,
    fun h => busRead_zero (by rw [regionOf_skipped hmap h]; decide)⟩
  case ifReg => rintro rfl; exact busRead_ifReg
  case keypad => rintro rfl; exact busRead_keypad (regionOf_tapInBlock rfl) (htap rfl)
  case lcdc => rintro rfl; exact busRead_lcdc (regionOf_tapInBlock rfl) (htap rfl) hlcdc
  case scy => rintro rfl; exact busRead_scy (regionOf_tapInBlock rfl) (htap rfl)
  case scx => rintro rfl; exact busRead_scx (regionOf_tapInBlock rfl) (htap rfl)
  case ly => rintro rfl; exact busRead_ly (regionOf_tapInBlock rfl) (htap rfl)
  case raw =>
    intro h h' hn
    obtain ⟨hif, hn⟩ := not_or.1 (mt List.mem_cons.2 hn)
    exact busRead_ioRaw (regionOf_io h h' hif) (htap (readTapOf_raw hn))
  case ieReg => rintro rfl; exact busRead_ieReg

/-- Settles O7: each clause is the equation of its row or tap. -/
theorem busWriteRouting : Obligations.BusWriteRouting := by
  rintro s a v hmap hecho htaps raw rfl
  have hcell : cellOf s.config a = a.toNat := cellOf_separate hecho
  have hstore (hr : regionOf s.config a ∈ storeRows) :
      busWrite a v s = .ok { s with mem := s.mem.write a.toNat v } := by
    rw [busWrite_store hr, hcell]; rfl
  have htap {b : Word} {w : WriteTap} (h : writeTapOf .reference b = w) : writeTapOf s.config.taps b = w := htaps ▸ h
  have hio {r : Res State} (hr : regionOf s.config a = .io) (hw : ioWrite a v s = r) : busWrite a v s = r :=
    (busWrite_io hr).trans hw
  refine ⟨busWrite_rom, fun h h' => hstore (regionOf_stores h h'), fun h h' => hstore (by rw [regionOf_oam h h']; decide),
    fun h h' => busWrite_dropped (by rw [regionOf_unusable h h']; decide),
    ?ifReg, ?boot, ?keypad, ?lcdc, ?scy, ?scx, ?bgp, ?dma, ?raw,
    fun h h' => hstore (by rw [regionOf_hram h h']; decide), ?ieReg,
    fun h => busWrite_dropped (by rw [regionOf_skipped hmap h]; decide)⟩
  case ifReg => rintro rfl; exact busWrite_ifReg
  case boot => rintro rfl; exact hio (regionOf_tapInBlock rfl) (ioWrite_boot (htap rfl))
  case keypad => rintro rfl; exact hio (regionOf_tapInBlock rfl) (ioWrite_keypad (htap rfl))
  case lcdc => rintro rfl; exact hio (regionOf_tapInBlock rfl) (ioWrite_lcdc (htap rfl))
  case scy => rintro rfl; exact hio (regionOf_tapInBlock rfl) (ioWrite_scy (htap rfl))
  case scx => rintro rfl; exact hio (regionOf_tapInBlock rfl) (ioWrite_scx (htap rfl))
  case bgp => rintro rfl; exact hio (regionOf_tapInBlock rfl) (ioWrite_bgp (htap rfl))
  case dma => rintro rfl; exact hio (regionOf_tapInBlock rfl) (ioWrite_dma (htap rfl))
  case raw =>
    intro h h' hn
    obtain ⟨hif, hn⟩ := not_or.1 (mt List.mem_cons.2 hn)
    exact hio (regionOf_io h h' hif) (ioWrite_raw (htap (writeTapOf_raw hn)))
  case ieReg => rintro rfl; exact busWrite_ieReg

/-- No address falls through every row of the contiguous map (R92). -/
theorem regionOf_contiguous_ne_unmapped (hm : cfg.mapVariant = .contiguous) : regionOf cfg a ≠ .unmapped := by
  intro h
  unfold regionOf at h
  simp only [hm, if_true] at h
  iterate 12 obtain ⟨_, h⟩ := ite_else h (by decide)
  have := a.isLt
  omega

/-- Settles O8: the five addresses take the equations of the rows R92 gives them. -/
theorem contiguousMapGivesTheFiveAddresses : Obligations.ContiguousMapGivesTheFiveAddresses := by
  intro s v hmap hecho htaps
  obtain ⟨hecho', hoam, hunusable, hio, hhram⟩ := regionOf_skipped_contiguous hmap
  have hstore (a : Word) (hr : regionOf s.config a ∈ storeRows) :
      busRead a s = .ok (s.mem.read a.toNat, s) ∧ busWrite a v s = .ok { s with mem := s.mem.write a.toNat v } := by
    rw [busRead_store hr, busWrite_store hr, cellOf_separate hecho]
    exact ⟨rfl, rfl⟩
  refine ⟨fun a ha => ?_, busRead_zero (by rw [hunusable]; decide), busWrite_dropped (by rw [hunusable]; decide),
    fun a => regionOf_contiguous_ne_unmapped hmap⟩
  simp only [List.mem_cons, List.not_mem_nil, or_false] at ha
  obtain rfl | rfl | rfl | rfl := ha
  · exact hstore _ (by rw [hecho']; decide)
  · exact hstore _ (by rw [hoam]; decide)
  · exact ⟨busRead_ioRaw hio (by rw [htaps]; rfl), (busWrite_io hio).trans (ioWrite_raw (by rw [htaps]; rfl))⟩
  · exact hstore _ (by rw [hhram]; decide)

/-- Settles O9: an aliased echo address and the address 0x2000 below have one cell. -/
theorem echoRamIsSeparateOrAliased : Obligations.EchoRamIsSeparateOrAliased := by
  intro s a v h h'
  have hr : regionOf s.config a ∈ storeRows := by rw [regionOf_echo h h']; decide
  refine ⟨fun hecho => ?_, fun hecho => ?_⟩
  · rw [busRead_store hr, busWrite_store hr, cellOf_separate hecho]
    exact ⟨rfl, rfl⟩
  · have hle : 0x2000 ≤ a.toNat := by omega
    have hbelow : (a - 0x2000).toNat = a.toNat - 0x2000 := BitVec.toNat_sub_of_le hle
    have hwram : regionOf s.config (a - 0x2000) = .wram := regionOf_wram (by omega) (by omega)
    have hr' : regionOf s.config (a - 0x2000) ∈ storeRows := by rw [hwram]; decide
    have hcell : cellOf s.config a = cellOf s.config (a - 0x2000) := by
      rw [cellOf_of_echo (regionOf_echo h h'), cellOf_of_not_echo (by rw [hwram]; decide), hbelow]
      exact if_pos hecho
    rw [busRead_store hr, busRead_store hr', busWrite_store hr, busWrite_store hr', hcell]
    exact ⟨rfl, rfl⟩

/-- Settles O14: the boot tap is tested first, and a set latch gives the overlay to the cartridge. -/
theorem bootDisableTapSetsTheLatch : Obligations.BootDisableTapSetsTheLatch := by
  intro s v hwf
  have hblock : tapInBlock s.config.taps.boot = true := by
    simp only [Config.wellFormed, Bool.and_eq_true, List.all_eq_true] at hwf
    exact hwf.1 _ (by simp [TapAddr.toList])
  have htap : writeTapOf s.config.taps s.config.taps.boot = .boot := if_pos rfl
  exact ⟨⟨_, (busWrite_io (regionOf_tapInBlock hblock)).trans (ioWrite_boot htap), rfl, rfl, rfl⟩,
    fun hl _ ha => busRead_overlay_cart ha hl⟩

end Sys2Proof.Machine
end

section
/-! The frame of the bus (R108): what a write may change, field by field; hence a read of an address the write does not touch
returns the same byte, over one write and over the trace of a whole instruction. -/

namespace Sys2Proof.Machine

variable {s t u : State} {a b : Word} {v : Byte}

/-- From `s` to `t` only what a write to `a` may change has changed: the cell of `a`, oam where `a` starts a copy, the latch,
IF, IE or the GPU register of its tap. -/
structure State.ChangedBy (a : Word) (s t : State) : Prop where
  mem : ∀ k, k ≠ cellOf s.config a →
    ¬ (regionOf s.config a = .io ∧ writeTapOf s.config.taps a = .dma ∧ 0xFE00 ≤ k ∧ k ≤ 0xFE9F) →
    t.mem.read k = s.mem.read k
  latch : ¬ (regionOf s.config a = .io ∧ writeTapOf s.config.taps a = .boot) → t.bootLatch = s.bootLatch
  ifReg : a ≠ 0xFF0F → t.ifReg = s.ifReg
  ieReg : a ≠ 0xFFFF → t.ieReg = s.ieReg
  lcdc : a ≠ s.config.taps.lcdc → t.gpu.lcdc = s.gpu.lcdc
  scrollY : a ≠ s.config.taps.scy → t.gpu.scrollY = s.gpu.scrollY
  scrollX : a ≠ s.config.taps.scx → t.gpu.scrollX = s.gpu.scrollX

theorem State.ChangedBy.refl (a : Word) (s : State) : s.ChangedBy a s :=
  ⟨fun _ _ _ => rfl, fun _ => rfl, fun _ => rfl, fun _ => rfl, fun _ => rfl, fun _ => rfl, fun _ => rfl⟩

theorem State.changedBy_setMem (s : State) (a : Word) (v : Byte) :
    s.ChangedBy a (s.setMem (s.mem.write (cellOf s.config a) v)) :=
  { State.ChangedBy.refl a s with mem := fun _ hk _ => Memory.read_write_other _ v hk }

theorem ioWrite_changedBy (hr : regionOf s.config a = .io) (h : ioWrite a v s = .ok t) : s.ChangedBy a t := by
  have hraw : s.ChangedBy a (s.rawStored a v) := by
    have := s.changedBy_setMem a v
    rwa [cellOf_of_not_echo (by rw [hr]; decide)] at this
  obtain ⟨hboot, hkeypad, hlcdc, hscy, hscx, hbgp, hdma⟩ := writeTapOf_address (t := s.config.taps) (b := a)
  cases hw : writeTapOf s.config.taps a
  case boot =>
    obtain rfl := Except.ok.inj ((ioWrite_boot hw).symm.trans h)
    exact { hraw with latch := fun hn => absurd ⟨hr, hw⟩ hn }
  case keypad =>
    obtain rfl := Except.ok.inj ((ioWrite_keypad hw).symm.trans h)
    exact { hraw with }
  case lcdc =>
    obtain rfl := Except.ok.inj ((ioWrite_lcdc hw).symm.trans h)
    exact { hraw with lcdc := fun hn => absurd (hlcdc hw) hn }
  case scy =>
    obtain rfl := Except.ok.inj ((ioWrite_scy hw).symm.trans h)
    exact { hraw with scrollY := fun hn => absurd (hscy hw) hn }
  case scx =>
    obtain rfl := Except.ok.inj ((ioWrite_scx hw).symm.trans h)
    exact { hraw with scrollX := fun hn => absurd (hscx hw) hn }
  case bgp =>
    obtain rfl := Except.ok.inj ((ioWrite_bgp hw).symm.trans h)
    exact { hraw with }
  case dma =>
    have hcopy : dmaLoop (Word.ofBytes v 0) 160 0 (s.rawStored a v) = .ok t := (ioWrite_dma hw).symm.trans h
    have hread {k : Nat} (hk : ¬ (0xFE00 ≤ k ∧ k ≤ 0xFE9F)) : t.mem.read k = (s.rawStored a v).mem.read k :=
      dmaLoop_read hcopy (by omega)
    rw [dmaLoop_frame hcopy]
    exact { hraw with
      mem := fun k hk hn => (hread fun hoam => hn ⟨hr, hw, hoam⟩).trans (hraw.mem k hk hn) }
  case raw =>
    obtain rfl := Except.ok.inj ((ioWrite_raw hw).symm.trans h)
    exact hraw

theorem busWrite_changedBy (h : busWrite a v s = .ok t) : s.ChangedBy a t := by
  cases hr : regionOf s.config a
  case overlay | cart | unusable | unmapped =>
    rw [busWrite_dropped (by rw [hr]; decide)] at h
    obtain rfl := Except.ok.inj h
    exact .refl a s
  case vram | extRam | wram | echo | oam | hram =>
    rw [busWrite_store (by rw [hr]; decide)] at h
    obtain rfl := Except.ok.inj h
    exact s.changedBy_setMem a v
  case ifReg =>
    obtain rfl := regionOf_registers.1 hr
    obtain rfl := Except.ok.inj (busWrite_ifReg.symm.trans h)
    exact { State.ChangedBy.refl 0xFF0F s with ifReg := fun hn => absurd rfl hn }
  case ieReg =>
    obtain rfl := regionOf_registers.2 hr
    obtain rfl := Except.ok.inj (busWrite_ieReg.symm.trans h)
    exact { State.ChangedBy.refl 0xFFFF s with ieReg := fun hn => absurd rfl hn }
  case io => exact ioWrite_changedBy hr ((busWrite_io hr).symm.trans h)

/-- A read of `b` returns the same in `s` and in `t`, at every draw count. -/
def State.PeeksAlike (b : Word) (s t : State) : Prop :=
  ∀ n, ({ t with draws := n } : State).peek b = ({ s with draws := n } : State).peek b

theorem State.PeeksAlike.trans (h₁ : s.PeeksAlike b t) (h₂ : t.PeeksAlike b u) : s.PeeksAlike b u :=
  fun n => (h₂ n).trans (h₁ n)

theorem State.PeeksAlike.peekAs (h : s.PeeksAlike b t) : t.peekAs s b = s.peek b := h s.draws

/-- A bus read counts a draw at most. -/
theorem State.afterRead_peeksAlike (s : State) (a b : Word) : s.PeeksAlike b (s.afterRead a) := by
  rw [State.afterRead_eq]
  exact fun _ => rfl

/-- A read sees none of the CPU's own registers. -/
theorem State.RegStep.peeksAlike (h : s.RegStep t) (b : Word) : s.PeeksAlike b t := by
  rw [h.frame]
  exact fun _ => rfl

/-- The frame of one write (R108). -/
theorem busWrite_peeksAlike (h : busWrite a v s = .ok t) (hb : ¬ touches s.config a b) : s.PeeksAlike b t := by
  obtain ⟨hmem, hlatch, hif, hie, hlcdc, hscy, hscx⟩ := busWrite_changedBy h
  obtain ⟨-, hbios, -, -⟩ := (busWrite_busStep h).keepsReadOnly
  have hcart := (busWrite_busStep h).cart
  have hconfig := (busWrite_busStep h).config
  simp only [touches, not_or] at hb
  obtain ⟨hcell, hdma, hboot⟩ := hb
  have hab : a ≠ b := fun hab => hcell (congrArg _ hab)
  have hread (hn : regionOf s.config b ≠ .unmapped) :
      t.mem.read (cellOf s.config b) = s.mem.read (cellOf s.config b) :=
    hmem _ (Ne.symm hcell) fun ⟨hr, hw, hlow, hhigh⟩ =>
      hdma ⟨hr, hw, (region_of_oam_cell hlow hhigh).resolve_right hn⟩
  intro n
  refine State.peek_congr hconfig (fun hlow => hlatch fun ⟨hr, hw⟩ => hboot ⟨hr, hw, hlow⟩) hcart hbios
    (fun hn _ _ => hread hn) (fun hr => hif (regionOf_registers.1 hr ▸ hab))
    (fun hr => hie (regionOf_registers.2 hr ▸ hab)) (fun hr => ?_)
  have hr : regionOf s.config b = .io := hr
  have hcellb : cellOf s.config b = b.toNat := cellOf_of_not_echo (by rw [hr]; decide)
  exact State.ioPeek_congr hconfig rfl (hcellb ▸ hread (by rw [hr]; decide)) (fun hl => hlcdc (hl ▸ hab))
    (fun hy => hscy (hy ▸ hab)) (fun hx => hscx (hx ▸ hab))

/-- The frame of a trace: none of its writes touches `b`. -/
theorem State.Trace.peeksAlike {P : Word → Prop} (h : State.Trace P s t) (hb : ∀ a, P a → ¬ touches s.config a b) :
    s.PeeksAlike b t := by
  induction h with
  | regs h => exact h.peeksAlike b
  | read s a => exact s.afterRead_peeksAlike a b
  | write ha h => exact busWrite_peeksAlike h (hb _ ha)
  | trans h₁ _ ih₁ ih₂ => exact (ih₁ hb).trans (ih₂ (h₁.keepsReadOnly.config ▸ hb))

/-- Settles O10: a draw is compared at the count before the write. -/
theorem busWriteFrame : Obligations.BusWriteFrame :=
  fun _ _ _ _ h _ hb => (busWrite_peeksAlike h hb).peekAs

/-- Settles O57: an instruction is a trace whose writes are at the addresses of `storedAt`. -/
theorem instructionsChangeOnlyTheBytesTheyStore : Obligations.InstructionsChangeOnlyTheBytesTheyStore :=
  fun i s t h _ hb => ((exec_trace i s t h).peeksAlike hb).peekAs

end Sys2Proof.Machine
end

section
/-! Round trips (R102, R103, R106): a byte of a round-trip address reads back as written, and the two bytes of a word do not
touch one another. -/

namespace Sys2Proof.Machine

variable {cfg : Config} {s : State} {a w : Word} {v : Byte}

/-- Where a round-trip byte is held: a cell of a store, an I/O byte with no tap, IF or IE. -/
theorem holdsByte_cases (h : holdsByte cfg a) :
    regionOf cfg a ∈ storeRows ∨
      (regionOf cfg a = .io ∧ readTapOf cfg.taps a = .raw ∧ writeTapOf cfg.taps a = .raw) ∨ a = 0xFF0F ∨ a = 0xFFFF := by
  unfold holdsByte at h
  cases hr : regionOf cfg a <;> rw [hr] at h
  case overlay | cart | unusable | unmapped => exact h.elim
  case vram | extRam | wram | echo | oam | hram => exact .inl (by decide)
  case io => exact .inr (.inl ⟨rfl, h⟩)
  case ifReg => exact .inr (.inr (.inl (regionOf_registers.1 hr)))
  case ieReg => exact .inr (.inr (.inr (regionOf_registers.2 hr)))

/-- The byte reads back, and the canonical form is kept for the next write. -/
theorem busWrite_readsBack (hwf : s.mem.wf = true) (h : holdsByte s.config a) (v : Byte) :
    ∃ t, busWrite a v s = .ok t ∧ busRead a t = .ok (v, t) ∧ t.mem.wf = true := by
  obtain hr | ⟨hr, hrt, hwt⟩ | rfl | rfl := holdsByte_cases h
  · have hread := busRead_store (s := s.setMem (s.mem.write (cellOf s.config a) v)) hr
    simp only [State.setMem_mem, State.setMem_config, Memory.read_write_same _ v hwf] at hread
    exact ⟨_, busWrite_store hr, hread, Memory.write_wf _ v hwf⟩
  · have hread := busRead_ioRaw (s := s.rawStored a v) hr hrt
    simp only [State.rawStored, State.setMem_mem, Memory.read_write_same _ v hwf] at hread
    exact ⟨_, (busWrite_io hr).trans (ioWrite_raw hwt), hread, Memory.write_wf _ v hwf⟩
  · exact ⟨_, busWrite_ifReg, busRead_ifReg, hwf⟩
  · exact ⟨_, busWrite_ieReg, busRead_ieReg, hwf⟩

theorem readDraws_of_holdsByte (h : holdsByte s.config a) : s.readDraws a = false := by
  unfold holdsByte at h
  unfold State.readDraws
  cases hr : regionOf s.config a <;> rw [hr] at h
  case io => simp [h.1]

/-- A round-trip address is not the end of the address space where the next one is one too: the next byte of 0xFFFF is the
overlay's (R102). -/
theorem toNat_succ_of_holdsByte (h : holdsByte cfg (a + 1)) : (a + 1).toNat = a.toNat + 1 := by
  have hne : a ≠ 0xFFFF := by
    rintro rfl
    have hr : regionOf cfg (0xFFFF + 1) = .overlay := regionOf_overlay.2 (by decide)
    unfold holdsByte at h
    rw [hr] at h
    exact h
  have hlt : a.toNat < 0xFFFF := by
    have := a.isLt
    have : a.toNat ≠ 0xFFFF := fun h => hne (BitVec.eq_of_toNat_eq h)
    omega
  exact BitVec.toNat_add_of_lt (Nat.succ_lt_succ hlt)

theorem cellOf_cases (cfg : Config) (a : Word) :
    cellOf cfg a = a.toNat ∨ (0xE000 ≤ a.toNat ∧ cellOf cfg a = a.toNat - 0x2000) := by
  by_cases he : regionOf cfg a = .echo
  · rw [cellOf_of_echo he]
    unfold echoKey
    split
    · exact .inr ⟨toNat_of_echo he, rfl⟩
    · exact .inl rfl
  · exact .inl (cellOf_of_not_echo he)

/-- Two neighbouring addresses have two cells, also where echo RAM is wram's (R76). -/
theorem cellOf_ne_succ (h : (a + 1).toNat = a.toNat + 1) : cellOf cfg a ≠ cellOf cfg (a + 1) := by
  have hcell := cellOf_cases cfg a
  have hcell' := cellOf_cases cfg (a + 1)
  omega

/-- A write to a round-trip byte touches its own cell only. -/
theorem touches_of_holdsByte {b : Word} (h : holdsByte cfg a) : touches cfg a b ↔ cellOf cfg a = cellOf cfg b := by
  have hraw (hr : regionOf cfg a = .io) : writeTapOf cfg.taps a = .raw := by
    unfold holdsByte at h
    rw [hr] at h
    exact h.2
  refine ⟨fun ht => ?_, .inl⟩
  obtain ht | ⟨hr, hw, -⟩ | ⟨hr, hw, -⟩ := ht
  · exact ht
  all_goals
    rw [hraw hr] at hw
    exact nomatch hw

/-- A read that is no draw does not see the draw count. -/
theorem State.peek_of_not_draws (h : s.readDraws a = false) (n : Nat) :
    ({ s with draws := n } : State).peek a = s.peek a := by
  unfold State.readDraws at h
  unfold State.peek State.ioPeek
  dsimp only
  cases hr : regionOf s.config a <;> rw [hr] at h
  case io =>
    cases ht : readTapOf s.config.taps a <;> rw [ht] at h <;> dsimp only at h ⊢
    case ly => exact nomatch h
    case lcdc =>
      cases hl : s.config.lcdcReadback
      case stored => rfl
      case draw => rw [hl] at h; exact nomatch h

theorem busRead_of_not_draws (hd : s.readDraws a = false) (hp : s.peek a = .ok v) : busRead a s = .ok (v, s) := by
  rw [busRead_of_peek hp, State.afterRead_of_not_draws hd]

/-- Settles O11: the byte's row writes and reads one place. -/
theorem byteRoundTrip : Obligations.ByteRoundTrip := by
  intro s a v hwf h
  obtain ⟨t, hwrite, hread, -⟩ := busWrite_readsBack hwf h v
  exact ⟨t, hwrite, hread⟩

theorem memRead16_of_busRead {lo hi : Byte} {t u : State} (hlo : busRead a s = .ok (lo, t))
    (hhi : busRead (a + 1) t = .ok (hi, u)) : memRead16 a s = .ok (Word.ofBytes hi lo, u) := by
  unfold memRead16
  simp only [hlo, hhi, Res.ok_bind, Res.pure_eq]

/-- The high byte, written first, outlives the write of the low one. -/
theorem memWrite16_readsBack (hwf : s.mem.wf = true) (hlo : holdsByte s.config a) (hhi : holdsByte s.config (a + 1)) :
    ∃ t, memWrite16 a w s = .ok t ∧ busRead a t = .ok (w.lo, t) ∧ busRead (a + 1) t = .ok (w.hi, t) := by
  obtain ⟨u, hwriteHi, hreadHi, hwf'⟩ := busWrite_readsBack hwf hhi w.hi
  have hcfg : u.config = s.config := (busWrite_busStep hwriteHi).config
  obtain ⟨t, hwriteLo, hreadLo, -⟩ := busWrite_readsBack hwf' (hcfg.symm ▸ hlo) w.lo
  have hcfg' : t.config = s.config := (busWrite_busStep hwriteLo).config.trans hcfg
  have hdraws : t.readDraws (a + 1) = false := readDraws_of_holdsByte (hcfg'.symm ▸ hhi)
  have hapart : ¬ touches u.config a (a + 1) := by
    rw [touches_of_holdsByte (hcfg.symm ▸ hlo)]
    exact cellOf_ne_succ (toNat_succ_of_holdsByte hhi)
  have hpeek : t.peek (a + 1) = .ok w.hi :=
    calc t.peek (a + 1) = t.peekAs u (a + 1) := (State.peek_of_not_draws hdraws u.draws).symm
      _ = u.peek (a + 1) := (busWrite_peeksAlike hwriteLo hapart).peekAs
      _ = .ok w.hi := (busRead_eq_ok.1 hreadHi).1
  exact ⟨t, memWrite16_eq_ok.2 ⟨u, hwriteHi, hwriteLo⟩, hreadLo, busRead_of_not_draws hdraws hpeek⟩

/-- Settles O12: at 0xFFFF the two bytes are IE and the overlay's first. -/
theorem wordRoundTrip : Obligations.WordRoundTrip := by
  refine ⟨fun s a w hwf hlo hhi => ?_, fun s w => ⟨?_, fun v hv => ?_, fun hn => ?_⟩⟩
  · obtain ⟨t, hwrite, hreadLo, hreadHi⟩ := memWrite16_readsBack (w := w) hwf hlo hhi
    have hread := memRead16_of_busRead hreadLo hreadHi
    rw [Word.ofBytes_hi_lo] at hread
    exact ⟨t, hwrite, hread, hreadLo, hreadHi⟩
  · exact memWrite16_eq_ok.2 ⟨s, busWrite_rom (by decide), busWrite_ieReg⟩
  · have hr : regionOf s.config 0x0000 = .overlay := regionOf_overlay.2 (by decide)
    have hhi : busRead 0x0000 s = .ok (v, s) := busRead_not_io (by rw [hr]; decide) hv
    exact memRead16_of_busRead busRead_ieReg hhi
  · have hie : s.readable 0xFFFF := fun ⟨hlow, _⟩ => absurd hlow (by decide)
    exact memRead16_eq_error.2 (.inr ⟨hie, mt State.afterRead_readable.1 hn, rfl⟩)

end Sys2Proof.Machine
end

section
/-! The DMA copy (R95): each source byte is read as it was before the copy, since the cells written so far lie below it or
outside its page. -/

namespace Sys2Proof.Machine

variable {s t : State} {v x : Byte}

theorem dmaSource_eq (v : Byte) {j : Nat} (hj : j < 160) :
    Word.ofBytes v (BitVec.ofNat 8 j) = Word.ofBytes v 0 + BitVec.ofNat 16 j := by
  apply BitVec.eq_of_toNat_eq
  rw [dmaSource_toNat v hj, Word.ofBytes_toNat, BitVec.toNat_ofNat, Nat.mod_eq_of_lt (by omega)]

/-- A source byte whose own cell is in oam has the offset of that cell: the copy of page 0xFE onto itself. -/
theorem cellOf_dmaSource_ne {cfg : Config} {i j : Nat} (hij : i < j) (hj : j < 160)
    (hn : regionOf cfg (Word.ofBytes v 0 + BitVec.ofNat 16 j) ≠ .unmapped) :
    cellOf cfg (Word.ofBytes v 0 + BitVec.ofNat 16 j) ≠ 0xFE00 + i := by
  intro hcell
  have hoam := (region_of_oam_cell (by omega) (by omega)).resolve_right hn
  rw [cellOf_of_not_echo (by rw [hoam]; decide), dmaSource_toNat v hj] at hcell
  omega

/-- One iteration of the copy leaves what a read of a later source byte returns. -/
theorem dmaIteration_peek {i j : Nat} {a : Word} (hij : i < j) (hj : j < 160)
    (hd : s.readDraws (Word.ofBytes v 0 + BitVec.ofNat 16 j) = false) :
    ((s.afterRead a).writeOam (0xFE00 + i) x).peek (Word.ofBytes v 0 + BitVec.ofNat 16 j) =
      s.peek (Word.ofBytes v 0 + BitVec.ofNat 16 j) := by
  rw [← State.peek_of_not_draws hd (s.afterRead a).draws, State.afterRead_eq]
  have hread (hn : regionOf s.config (Word.ofBytes v 0 + BitVec.ofNat 16 j) ≠ .unmapped) :=
    Memory.read_write_other s.mem x (cellOf_dmaSource_ne hij hj hn)
  refine State.peek_congr rfl (fun _ => rfl) rfl rfl (fun hn _ _ => hread hn) (fun _ => rfl) (fun _ => rfl) fun hr => ?_
  have hr : regionOf s.config (Word.ofBytes v 0 + BitVec.ofNat 16 j) = .io := hr
  refine State.ioPeek_congr rfl rfl ?_ (fun _ => rfl) (fun _ => rfl) (fun _ => rfl)
  rw [← cellOf_of_not_echo (cfg := s.config) (by rw [hr]; decide)]
  exact hread (by rw [hr]; decide)

theorem dmaLoop_copies {n i j : Nat} (hwf : s.mem.wf = true) (hn : i + n ≤ 160)
    (h : dmaLoop (Word.ofBytes v 0) n i s = .ok t) (hij : i ≤ j) (hj : j < i + n)
    (hd : s.readDraws (Word.ofBytes v 0 + BitVec.ofNat 16 j) = false) :
    s.peek (Word.ofBytes v 0 + BitVec.ofNat 16 j) = .ok (t.mem.read (0xFE00 + j)) := by
  induction n generalizing i s with
  | zero => omega
  | succ n ih =>
    unfold dmaLoop at h
    obtain ⟨⟨x, u⟩, hu, h⟩ := Res.bind_eq_ok.1 h
    obtain ⟨hx, rfl⟩ := busRead_eq_ok.1 hu
    have hwf' : (s.afterRead (Word.ofBytes v 0 + BitVec.ofNat 16 i)).mem.wf = true := by
      rw [State.afterRead_eq]; exact hwf
    obtain rfl | hlt := Nat.eq_or_lt_of_le hij
    · rw [hx, dmaLoop_read h (by omega)]
      exact congrArg Except.ok (Memory.read_write_same _ x hwf').symm
    · rw [← dmaIteration_peek hlt (by omega) hd]
      refine ih (Memory.write_wf _ x hwf') (by omega) h hlt (by omega) ?_
      rw [State.afterRead_eq]
      exact hd

/-- Settles O13: the loop reads each source byte as it was, and writes cells of oam only. -/
theorem dmaCopiesTheSourcePage : Obligations.DmaCopiesTheSourcePage := by
  refine ⟨fun s hl hb => dmaCopy_absent hl hb, fun s v hwf hreadable => ?_⟩
  obtain ⟨t, ht⟩ : ∃ t, dmaCopy v s = .ok t :=
    dmaLoop_completes fun j _ hj => dmaSource_eq v (j := j) (by omega) ▸ hreadable j (by omega)
  refine ⟨t, ht, fun i hi hd => ?_, fun k hk => dmaLoop_read ht (by omega), dmaLoop_frame ht⟩
  rw [dmaSource_eq v hi] at hd ⊢
  exact dmaLoop_copies hwf (by omega) ht (by omega) (by omega) hd

end Sys2Proof.Machine
end

section
/-! The decoder and the encoder (R130 to R148): decoding is checked on the encoding of every instruction, group by group, and
encoding on the entry of every byte. -/

namespace Sys2Proof

/-! ### Decoding what was encoded -/

/-- The marker's own place in the plain table is empty (R137). -/
theorem ne_extensionMarker_of_plainEntry {b : Byte} {e : Entry} (h : plainEntry b = some e) : b ≠ extensionMarker := by
  rintro rfl
  cases h

theorem decode_of_plainEntry {b : Byte} {e : Entry} (h : plainEntry b = some e) (tail : List Byte) :
    decode (b :: tail) = e.complete tail := by
  unfold decode
  simp only [if_neg (ne_extensionMarker_of_plainEntry h), h]

theorem decode_of_no_plainEntry {b : Byte} (hb : b ≠ extensionMarker) (h : plainEntry b = none) (tail : List Byte) :
    decode (b :: tail) = .error (.lookupMiss (.plain b)) := by
  unfold decode
  simp only [if_neg hb, h]

/-- A word is read back from its two bytes, low byte first (R144). -/
theorem decode_word {b : Byte} {f : Word → Instr} (h : plainEntry b = some (.imm16 f)) (w : Word) (rest : List Byte) :
    decode (b :: w.lo :: w.hi :: rest) = .ok (f w, rest) := by
  rw [decode_of_plainEntry h]
  unfold Entry.complete
  simp only [Word.ofBytes_hi_lo]

/-- Where the operands are fixed and no immediate is a word, both sides compute. -/
theorem decode_encode (i : Instr) (rest : List Byte) : decode (encode i ++ rest) = .ok (i, rest) := by
  cases i using Instr.byFamily
  case ldRegReg dst src => cases dst <;> cases src <;> rfl
  case ldRegN8 dst n => cases dst <;> rfl
  case ldRegIndHl dst => cases dst <;> rfl
  case ldIndHlReg src => cases src <;> rfl
  case ldPairN16 p n => cases p <;> exact decode_word rfl n rest
  case push q => cases q <;> rfl
  case pop q => cases q <;> rfl
  case alu op src => cases op <;> rcases src with ⟨⟨⟩⟩ | _ | n <;> rfl
  case inc8 o => rcases o with ⟨⟨⟩⟩ | _ <;> rfl
  case dec8 o => rcases o with ⟨⟨⟩⟩ | _ <;> rfl
  case addHl p => cases p <;> rfl
  case inc16 p => cases p <;> rfl
  case dec16 p => cases p <;> rfl
  case shift op o => cases op <;> rcases o with ⟨⟨⟩⟩ | _ <;> rfl
  case bit b o => cases b <;> rcases o with ⟨⟨⟩⟩ | _ <;> rfl
  case res b o => cases b <;> rcases o with ⟨⟨⟩⟩ | _ <;> rfl
  case set b o => cases b <;> rcases o with ⟨⟨⟩⟩ | _ <;> rfl
  case jpCond cc a => cases cc <;> exact decode_word rfl a rest
  case jrCond cc e => cases cc <;> rfl
  case callCond cc a => cases cc <;> exact decode_word rfl a rest
  case retCond cc => cases cc <;> rfl
  case rst t => cases t <;> rfl
  case ldIndA16Sp a => exact decode_word rfl a rest
  case jpA16 a => exact decode_word rfl a rest
  case callA16 a => exact decode_word rfl a rest
  case ldIndA16A a => exact decode_word rfl a rest
  case ldAIndA16 a => exact decode_word rfl a rest
  all_goals rfl

/-- Settles O15: group by group, the fields of the encoded byte select the constructor again. -/
theorem decodeInvertsEncode : Obligations.DecodeInvertsEncode :=
  decode_encode

/-! ### Encoding what was decoded -/

theorem encode_extendedInstr (b : Byte) : encode (extendedInstr b) = [extensionMarker, b] := by
  revert b
  decide

/-- The instructions of an entry at byte `b` are encoded as `b` and their immediate; the entry with an ignored byte is STOP's
(R145, R147). -/
inductive Entry.EncodedAt (b : Byte) : Entry → Prop where
  | op {i : Instr} (h : encode i = [b]) : EncodedAt b (.op i)
  | stop (h : b = 0x10) : EncodedAt b (.ignoredByte .stop)
  | imm8 {f : Byte → Instr} (h : ∀ n, encode (f n) = [b, n]) : EncodedAt b (.imm8 f)
  | imm16 {f : Word → Instr} (h : ∀ w, encode (f w) = [b, w.lo, w.hi]) : EncodedAt b (.imm16 f)

/-- The plain table of R147 against the encoder's rows, byte by byte; the immediate stays a variable. -/
theorem plainEntry_encodedAt {b : Byte} {e : Entry} (h : plainEntry b = some e) : e.EncodedAt b := by
  obtain ⟨k⟩ := b
  fin_cases k <;> cases h <;> constructor <;> intros <;> rfl

/-- The immediate an entry reads is that of the encoding. -/
theorem Entry.EncodedAt.of_complete {b : Byte} {e : Entry} (he : e.EncodedAt b) {tail rest : List Byte} {i : Instr}
    (h : e.complete tail = .ok (i, rest)) :
    b :: tail = encode i ++ rest ∨ (e = .ignoredByte .stop ∧ b = 0x10 ∧ i = .stop ∧ rest = tail.drop 1) := by
  cases he with
  | op hi =>
    cases h
    exact .inl (by rw [hi, List.singleton_append])
  | stop hb =>
    cases h
    exact .inr ⟨rfl, hb, rfl, rfl⟩
  | imm8 hf =>
    obtain _ | ⟨n, tail⟩ := tail <;> cases h
    exact .inl (by rw [hf, List.cons_append, List.singleton_append])
  | imm16 hf =>
    obtain _ | ⟨lo, _ | ⟨hi, tail⟩⟩ := tail <;> cases h
    exact .inl (by simp [hf])

/-- What decodes is the marker and an extended byte, or a plain byte and what its entry reads (R131, R134). -/
theorem decode_cases {bytes rest : List Byte} {i : Instr} (h : decode bytes = .ok (i, rest)) :
    (∃ b, bytes = extensionMarker :: b :: rest ∧ i = extendedInstr b) ∨
    ∃ b e tail, bytes = b :: tail ∧ plainEntry b = some e ∧ e.complete tail = .ok (i, rest) := by
  obtain _ | ⟨b, tail⟩ := bytes
  · cases h
  by_cases hb : b = extensionMarker
  · subst hb
    obtain _ | ⟨b, tail⟩ := tail <;> cases h
    exact .inl ⟨b, rfl, rfl⟩
  · cases he : plainEntry b with
    | none =>
      rw [decode_of_no_plainEntry hb he] at h
      cases h
    | some e =>
      rw [decode_of_plainEntry he] at h
      exact .inr ⟨b, e, tail, rfl, he, h⟩

theorem encode_of_decode {bytes rest : List Byte} {i : Instr} (h : decode bytes = .ok (i, rest)) :
    bytes = encode i ++ rest ∨ (i = .stop ∧ ∃ tail, bytes = 0x10 :: tail ∧ rest = tail.drop 1) := by
  obtain ⟨b, rfl, rfl⟩ | ⟨b, e, tail, rfl, he, h⟩ := decode_cases h
  · exact .inl (by rw [encode_extendedInstr]; rfl)
  · obtain hbytes | ⟨-, rfl, rfl, hrest⟩ := (plainEntry_encodedAt he).of_complete h
    · exact .inl hbytes
    · exact .inr ⟨rfl, tail, rfl, hrest⟩

/-- Settles O16: the bytes are the encoding, or STOP's with another second byte or none. -/
theorem encodeInvertsDecode : Obligations.EncodeInvertsDecode := by
  intro bytes rest i h
  obtain rfl | ⟨rfl, hstop⟩ := encode_of_decode h
  · refine ⟨fun _ => rfl, ?_⟩
    rintro rfl
    exact ⟨0x00 :: rest, rfl, rfl⟩
  · exact ⟨fun hi => absurd rfl hi, fun _ => hstop⟩

/-! ### The tables' gaps, and words written out -/

theorem opcode_of_encode_plain {i : Instr} {b : Byte} {tail : List Byte} (hb : b ≠ extensionMarker)
    (h : encode i = b :: tail) : i.opcode = .plain b := by
  unfold Instr.opcode
  rw [h]
  cases tail with
  | nil => rfl
  | cons => exact if_neg hb

theorem opcode_extendedInstr (b : Byte) : (extendedInstr b).opcode = .extended b := by
  unfold Instr.opcode
  rw [encode_extendedInstr]
  rfl

theorem opcode_of_complete {b : Byte} {e : Entry} {tail : List Byte} {i : Instr} (he : plainEntry b = some e)
    (h : e.complete tail = .ok (i, [])) : i.opcode = .plain b := by
  obtain hbytes | ⟨-, rfl, rfl, -⟩ := (plainEntry_encodedAt he).of_complete h
  · rw [List.append_nil] at hbytes
    exact opcode_of_encode_plain (ne_extensionMarker_of_plainEntry he) hbytes.symm
  · rfl

theorem plainEntry_eq_none_iff (b : Byte) : plainEntry b = none ↔
    b ∈ ([0xCB, 0xD3, 0xDB, 0xDD, 0xE3, 0xE4, 0xEB, 0xEC, 0xED, 0xF4, 0xFC, 0xFD] : List Byte) := by
  revert b
  decide

/-- Settles O17: the twelve empty places are found by running the plain table on the 256 bytes. -/
theorem illegalOpcodesHaveNoDescriptor : Obligations.IllegalOpcodesHaveNoDescriptor :=
  ⟨plainEntry_eq_none_iff, opcode_extendedInstr, fun _ rest hb h => decode_of_no_plainEntry hb h rest⟩

/-- Settles O19: each word is the encoding of its instruction. -/
theorem writtenOutWordsDecode : Obligations.WrittenOutWordsDecode :=
  ⟨decode_encode .ldAC [], decode_encode (.ldDN8 0x5A) [], decode_encode (.ldSpN16 0xCFFE) [], decode_encode .pushAf [],
    decode_encode .sbcAIndHl [], decode_encode .addHlSp [], decode_encode .bit7H [], decode_encode .swapIndHl [],
    decode_encode (.jrNcE8 0xFE) [], decode_encode .rst28 [], decode_encode .halt []⟩

end Sys2Proof
end

section
/-! A fetch through the bus answers what the bytes it reads decode to (R131, R134, R144). -/

namespace Sys2Proof.Machine

variable {s t u : State} {a : Word} {b : Byte} {bs : List Byte} {n : Nat} {i : Instr}

theorem readBytes_eq_nil : readBytes n a s = .ok ([], u) ↔ n = 0 ∧ u = s := by
  cases n with
  | zero => simp [readBytes, eq_comm]
  | succ n => simp [readBytes, Res.bind_eq_ok]

theorem readBytes_eq_cons : readBytes n a s = .ok (b :: bs, u) ↔
    ∃ m t, n = m + 1 ∧ busRead a s = .ok (b, t) ∧ readBytes m (a + 1) t = .ok (bs, u) := by
  cases n with
  | zero => simp [readBytes]
  | succ n =>
    simp [readBytes, Res.bind_eq_ok]

theorem fetchOpcode_plain (hread : busRead a s = .ok (b, t)) (hb : b ≠ extensionMarker) :
    fetchOpcode a s = .ok (.plain b, t) := by
  unfold fetchOpcode
  simp only [hread, Res.ok_bind, if_neg hb, Res.pure_eq]

theorem fetchOpcode_extended (hmarker : busRead a s = .ok (extensionMarker, t)) (hread : busRead (a + 1) t = .ok (b, u)) :
    fetchOpcode a s = .ok (.extended b, u) := by
  unfold fetchOpcode
  simp only [hmarker, hread, Res.ok_bind, if_true, Res.pure_eq]

theorem fetchInstr_plain {e : Entry} (hop : fetchOpcode s.pc s = .ok (.plain b, t)) (he : plainEntry b = some e)
    (hp : populated s.config (.plain b) = true) : fetchInstr s = fetchOperand e s.pc t := by
  have hcfg : t.config = s.config := by rw [fetchOpcode_busStep hop]
  unfold fetchInstr
  simp only [hop, Res.ok_bind, hcfg, hp, if_true, he]

theorem fetchInstr_extended (hop : fetchOpcode s.pc s = .ok (.extended b, t))
    (hp : populated s.config (.extended b) = true) : fetchInstr s = .ok (extendedInstr b, t) := by
  have hcfg : t.config = s.config := by rw [fetchOpcode_busStep hop]
  unfold fetchInstr
  simp only [hop, Res.ok_bind, hcfg, hp, if_true, Res.pure_eq]

/-- An entry reads through the bus what it reads from the string of those bytes. -/
theorem fetchOperand_of_complete {e : Entry} (hread : readBytes n (a + 1) s = .ok (bs, u))
    (h : e.complete bs = .ok (i, [])) (hignored : e = .ignoredByte i → bs = []) : fetchOperand e a s = .ok (i, u) := by
  cases e with
  | op j =>
    cases h
    obtain ⟨-, rfl⟩ := readBytes_eq_nil.1 hread
    rfl
  | ignoredByte j =>
    obtain rfl : j = i := (Prod.mk.inj (Except.ok.inj h)).1
    rw [hignored rfl] at hread
    obtain ⟨-, rfl⟩ := readBytes_eq_nil.1 hread
    rfl
  | imm8 f =>
    obtain _ | ⟨n, bs⟩ := bs <;> cases h
    obtain ⟨_, t, -, hn, hread⟩ := readBytes_eq_cons.1 hread
    obtain ⟨-, rfl⟩ := readBytes_eq_nil.1 hread
    unfold fetchOperand
    simp only [hn, Res.ok_bind, Res.pure_eq]
  | imm16 f =>
    obtain _ | ⟨lo, _ | ⟨hi, bs⟩⟩ := bs <;> cases h
    obtain ⟨_, t, -, hlo, hread⟩ := readBytes_eq_cons.1 hread
    obtain ⟨_, t, -, hhi, hread⟩ := readBytes_eq_cons.1 hread
    obtain ⟨-, rfl⟩ := readBytes_eq_nil.1 hread
    unfold fetchOperand
    simp only [memRead16_of_busRead hlo hhi, Res.ok_bind, Res.pure_eq]

/-- The fetch reads what decoding takes from the same bytes; the one entry with an ignored byte is STOP's, of which only the
opcode byte is read (R145). -/
theorem fetchInstr_of_decode (hread : readBytes i.bytesRead s.pc s = .ok (bs, u)) (h : decode bs = .ok (i, []))
    (hp : i.wellFormed s.config = true) : fetchInstr s = .ok (i, u) := by
  unfold Instr.wellFormed at hp
  obtain ⟨b, rfl, rfl⟩ | ⟨b, e, tail, rfl, he, hcomplete⟩ := decode_cases h
  · rw [opcode_extendedInstr] at hp
    obtain ⟨_, t, -, hmarker, hread⟩ := readBytes_eq_cons.1 hread
    obtain ⟨_, t, -, hb, hread⟩ := readBytes_eq_cons.1 hread
    obtain ⟨-, rfl⟩ := readBytes_eq_nil.1 hread
    exact fetchInstr_extended (fetchOpcode_extended hmarker hb) hp
  · obtain ⟨m, t, hm, hb, hread⟩ := readBytes_eq_cons.1 hread
    rw [opcode_of_complete he hcomplete] at hp
    rw [fetchInstr_plain (fetchOpcode_plain hb (ne_extensionMarker_of_plainEntry he)) he hp]
    refine fetchOperand_of_complete hread hcomplete ?_
    rintro rfl
    cases plainEntry_encodedAt he
    obtain rfl : m = 0 := (Nat.succ.inj hm).symm
    cases hread
    rfl

/-- Settles O20: the fetch answers the decoded instruction, and writes nothing. -/
theorem stepRunsTheDecodedInstruction : Obligations.StepRunsTheDecodedInstruction := by
  intro s u i bytes hruns hread hdecode hp
  have hfetch := fetchInstr_of_decode hread hdecode hp
  refine ⟨?_, fetchInstr_frame hfetch⟩
  rw [step_of_runs hruns]
  unfold runInstruction
  rw [hfetch]

end Sys2Proof.Machine
end

section
/-! The 8-bit loads and stores (41_load8.md). All of them answer `None`, and each is one of three shapes: a register write, a
bus read followed by a register update, or a bus write followed by a register update. -/

namespace Sys2Proof.Machine

variable {s u : State} {handler : Handler} {i : Instr} {a : Word} {v : Byte} {length cost : Nat}

@[simp] theorem State.reg8_advanced (u s : State) (length cost : Nat) (r : Reg8) :
    (u.advanced s length cost).reg8 r = u.reg8 r := by
  cases r <;> rfl

/-- A handler that answers `None` and leaves the cycle count and the parameters ends in `advanced`. -/
theorem perform_none (h : handler s = .ok (.none, u)) (hc : u.cycles = s.cycles) (hg : u.config = s.config) :
    perform ⟨length, cost, 0⟩ handler s = .next (u.advanced s length cost) := by
  rw [perform_of_ok h, applyOutcome_none hc hg]

/-! ### Register writes -/

/-- The next state of a register write: the register holds the byte, the others are kept, and beside the registers only PC
and the cycle count move. -/
theorem perform_setReg8 {dst : Reg8} (h : handler s = .ok (.none, s.setReg8 dst v)) :
    ∃ t, perform ⟨length, cost, 0⟩ handler s = .next t ∧ t.reg8 dst = v ∧ (∀ r, r ≠ dst → t.reg8 r = s.reg8 r) ∧
      t = ({ s with a := t.a, b := t.b, c := t.c, d := t.d, e := t.e, h := t.h, l := t.l } : State).advanced
        s length cost := by
  refine ⟨(s.setReg8 dst v).advanced s length cost, perform_none h (by simp) (by simp), by simp, fun r hr => ?_, ?_⟩
  · rw [State.reg8_advanced, State.reg8_setReg8_other s v hr]
  · cases dst <;> rfl

/-- Settles O21: both forms answer a register write. -/
theorem registerLoads : Obligations.RegisterLoads := by
  refine ⟨fun s dst src => ?_, fun s dst n => ?_⟩
  · rw [exec_ldRegReg]
    exact perform_setReg8 rfl
  · rw [exec_ldRegN8]
    exact perform_setReg8 rfl

/-! ### The shapes of a load and a store -/

/-- The register update `f` touches neither the cycle count nor the parameters, the two fields the charge is taken from. -/
def KeepsCharge (f : State → State) : Prop := ∀ u, (f u).cycles = u.cycles ∧ (f u).config = u.config

theorem keepsCharge_id : KeepsCharge id := fun _ => ⟨rfl, rfl⟩

theorem keepsCharge_setReg8 (r : Reg8) (v : Byte) : KeepsCharge (·.setReg8 r v) :=
  fun u => ⟨u.setReg8_cycles r v, u.setReg8_config r v⟩

theorem keepsCharge_setHl (w : Word) : KeepsCharge (·.setHl w) := fun _ => ⟨rfl, rfl⟩

theorem keepsCharge_setReg8_setHl (r : Reg8) (v : Byte) (w : Word) : KeepsCharge fun u => (u.setReg8 r v).setHl w :=
  fun u => keepsCharge_setReg8 r v u

/-- The handler of a load: the byte at `a`, then the register update `f` with it. -/
def loadThen (a : Word) (f : Byte → State → State) : Handler := fun s => do
  let (v, u) ← busRead a s
  return (.none, f v u)

/-- The handler of a store: the byte `v` to `a`, then the register update `f`. -/
def storeThen (a : Word) (v : Byte) (f : State → State) : Handler := fun s => do
  let u ← busWrite a v s
  return (.none, f u)

/-- A load of a readable byte. -/
theorem perform_loadThen {f : Byte → State → State} (h : handler s = loadThen a f s) (hf : KeepsCharge (f v))
    (hv : s.peek a = .ok v) :
    perform ⟨length, cost, 0⟩ handler s = .next ((f v (s.afterRead a)).advanced s length cost) := by
  have hread := busRead_of_peek hv
  have hbus := busRead_busStep hread
  obtain ⟨hcycles, hconfig⟩ := hf (s.afterRead a)
  refine perform_none ?_ (hcycles.trans hbus.cycles) (hconfig.trans hbus.config)
  rw [h]
  unfold loadThen
  rw [hread]
  rfl

/-- A load of an unreadable byte is the fatal of its address (R72). -/
theorem perform_loadThen_fault {f : Byte → State → State} {d : Descriptor} (h : handler s = loadThen a f s)
    (ha : ¬ s.readable a) : perform d handler s = .fault (.biosAbsent a) := by
  refine perform_of_error (e := .fault (.biosAbsent a)) ?_
  rw [h]
  unfold loadThen
  rw [busRead_eq_error.2 ⟨ha, rfl⟩]
  rfl

/-- A store whose bus write completes. -/
theorem perform_storeThen {f : State → State} (h : handler s = storeThen a v f s) (hf : KeepsCharge f)
    (hu : busWrite a v s = .ok u) :
    perform ⟨length, cost, 0⟩ handler s = .next ((f u).advanced s length cost) := by
  have hbus := busWrite_busStep hu
  obtain ⟨hcycles, hconfig⟩ := hf u
  refine perform_none ?_ (hcycles.trans hbus.cycles) (hconfig.trans hbus.config)
  rw [h]
  unfold storeThen
  rw [hu]
  rfl

/-- A store that is not writable is the fatal of the copy it starts (R95). -/
theorem perform_storeThen_fault {f : State → State} {d : Descriptor} (h : handler s = storeThen a v f s)
    (ha : ¬ s.writable a v) : perform d handler s = .fault (.biosAbsent 0x0000) := by
  refine perform_of_error (e := .fault (.biosAbsent 0x0000)) ?_
  rw [h]
  unfold storeThen
  rw [busWrite_of_not_writable ha]
  rfl

/-! ### The handlers, by shape -/

theorem handleLdRegIndHl_eq (dst : Reg8) (s : State) :
    handleLdRegIndHl dst s = loadThen s.hl (fun v u => u.setReg8 dst v) s := rfl

theorem handleLoadA_eq (a : Word) (s : State) : handleLoadA a s = loadThen a (fun v u => u.setReg8 .a v) s := rfl

theorem handleLoadAMoveHl_eq (delta : Word) (s : State) :
    handleLoadAMoveHl delta s = loadThen s.hl (fun v u => (u.setReg8 .a v).setHl (s.hl + delta)) s := rfl

theorem handleLdIndHlReg_eq (src : Reg8) (s : State) :
    handleLdIndHlReg src s = storeThen s.hl (s.reg8 src) id s := rfl

theorem handleLdIndHlN8_eq (n : Byte) (s : State) : handleLdIndHlN8 n s = storeThen s.hl n id s := rfl

theorem handleStoreA_eq (a : Word) (s : State) : handleStoreA a s = storeThen a s.a id s := rfl

theorem handleStoreAMoveHl_eq (delta : Word) (s : State) :
    handleStoreAMoveHl delta s = storeThen s.hl s.a (·.setHl (s.hl + delta)) s := rfl

/-- The high page as a sum (R145). -/
theorem highPage_eq_add (n : Byte) : 0xFF00 + n.setWidth 16 = highPage n := by
  have hn := n.isLt
  apply BitVec.eq_of_toNat_eq
  unfold highPage
  rw [Word.ofBytes_toNat, BitVec.toNat_add, BitVec.toNat_setWidth_of_le (by decide)]
  show (0xFF00 + n.toNat) % 2 ^ 16 = 0xFF * 256 + n.toNat
  omega

/-! ### The loads from memory -/

theorem loadsFrom_of_loadThen {dst : Reg8} (hexec : exec i s = perform ⟨length, cost, 0⟩ handler s)
    (h : handler s = loadThen a (fun v u => u.setReg8 dst v) s) : LoadsFrom i dst a length cost s := by
  refine ⟨fun ha => ?_, fun ha => hexec.trans (perform_loadThen_fault h ha)⟩
  obtain ⟨v, hv⟩ := State.peek_of_readable ha
  exact ⟨v, hv, hexec.trans (perform_loadThen h (keepsCharge_setReg8 dst v) hv)⟩

/-- Settles O22: each is one bus read and one register write. -/
theorem memoryLoads : Obligations.MemoryLoads := by
  intro s
  simp only [highPage_eq_add]
  exact ⟨fun dst => loadsFrom_of_loadThen (exec_ldRegIndHl dst s) (handleLdRegIndHl_eq dst s),
    loadsFrom_of_loadThen (exec_ldAIndBc s) (handleLoadA_eq s.bc s),
    loadsFrom_of_loadThen (exec_ldAIndDe s) (handleLoadA_eq s.de s),
    fun a => loadsFrom_of_loadThen (exec_ldAIndA16 a s) (handleLoadA_eq a s),
    fun n => loadsFrom_of_loadThen (exec_ldhAIndA8 n s) (handleLoadA_eq (highPage n) s),
    loadsFrom_of_loadThen (exec_ldAIndC s) (handleLoadA_eq (highPage s.c) s)⟩

/-! ### The stores -/

theorem storesAt_of_storeThen (hexec : exec i s = perform ⟨length, cost, 0⟩ handler s)
    (h : handler s = storeThen a v id s) : StoresAt i a v length cost s := by
  refine ⟨fun ha => ?_, fun ha => hexec.trans (perform_storeThen_fault h ha)⟩
  obtain ⟨u, hu⟩ := busWrite_completes ha
  exact ⟨u, hu, hexec.trans (perform_storeThen h keepsCharge_id hu)⟩

/-- Settles O23: each is one bus write and nothing else. -/
theorem memoryStores : Obligations.MemoryStores := by
  intro s
  simp only [highPage_eq_add]
  exact ⟨fun src => storesAt_of_storeThen (exec_ldIndHlReg src s) (handleLdIndHlReg_eq src s),
    fun n => storesAt_of_storeThen (exec_ldIndHlN8 n s) (handleLdIndHlN8_eq n s),
    storesAt_of_storeThen (exec_ldIndBcA s) (handleStoreA_eq s.bc s),
    storesAt_of_storeThen (exec_ldIndDeA s) (handleStoreA_eq s.de s),
    fun a => storesAt_of_storeThen (exec_ldIndA16A a s) (handleStoreA_eq a s),
    fun n => storesAt_of_storeThen (exec_ldhIndA8A n s) (handleStoreA_eq (highPage n) s),
    storesAt_of_storeThen (exec_ldIndCA s) (handleStoreA_eq (highPage s.c) s)⟩

/-! ### The forms that move HL -/

/-- Settles O24: the access is made at the old HL, and the register update after it writes `HL ± 1`. -/
theorem hlMovingLoadsAndStores : Obligations.HlMovingLoadsAndStores := by
  intro s
  simp only [exec_ldIndHlIncA, exec_ldIndHlDecA, exec_ldAIndHlInc, exec_ldAIndHlDec, BitVec.sub_eq_add_neg]
  have hstore (delta : Word) := handleStoreAMoveHl_eq delta s
  have hload (delta : Word) := handleLoadAMoveHl_eq delta s
  refine ⟨fun ha => ?_, fun ha => ?_, fun ha => ?_, fun ha => ?_⟩
  · obtain ⟨u, hu⟩ := busWrite_completes ha
    have hmoves (delta : Word) := perform_storeThen (length := 1) (cost := 2) (hstore delta) (keepsCharge_setHl _) hu
    exact ⟨u, hu, hmoves 1, hmoves (-1)⟩
  · exact ⟨perform_storeThen_fault (hstore 1) ha, perform_storeThen_fault (hstore (-1)) ha⟩
  · obtain ⟨v, hv⟩ := State.peek_of_readable ha
    have hmoves (delta : Word) :=
      perform_loadThen (length := 1) (cost := 2) (hload delta) (keepsCharge_setReg8_setHl .a v _) hv
    exact ⟨v, hv, hmoves 1, hmoves (-1)⟩
  · exact ⟨perform_loadThen_fault (hload 1) ha, perform_loadThen_fault (hload (-1)) ha⟩

end Sys2Proof.Machine
end

section
/-! The 16-bit loads and the stack (42_load16.md), with ADD SP,e8, which shares the sum and the flags of LD HL,SP+e8 (R293).
All of them answer `None`: a register write, a word write, or a word read followed by a register write. -/

namespace Sys2Proof.Machine

variable {s b : State} {handler : Handler} {o : StepOutcome} {a w : Word} {length cost : Nat}

/-! ### The pairs -/

theorem exec_ldPairN16_next (p : Reg16) (n : Word) (s : State) :
    exec (Instr.ldPairN16 p n) s = .next ((s.setReg16 p n).advanced s 3 3) := by
  rw [exec_ldPairN16]
  exact perform_none rfl (s.setReg16_cycles p n) (s.setReg16_config p n)

/-- Settles O25: each is one register write. -/
theorem pairLoads : Obligations.PairLoads := by
  intro s n
  have hload (p : Reg16) := exec_ldPairN16_next p n s
  have hspHl : exec .ldSpHl s = .next ((s.setSp s.hl).advanced s 1 2) := by
    rw [exec_ldSpHl]
    exact perform_none rfl rfl rfl
  exact ⟨hload .bc, hload .de, hload .hl, hload .sp, hspHl⟩

/-! ### The flags after an update of F -/

/-- Above the low nibble an updated F holds the new flags alone (R32). -/
theorem State.setFlags_f_getLsbD (s : State) (z n h cy : Bool) {k : Nat} (hk : 4 ≤ k) :
    (s.setFlags z n h cy).f.getLsbD k = (flagBits z n h cy).getLsbD k := by
  have hmask : (0x0F : Byte).getLsbD k = false :=
    Nat.testBit_lt_two_pow (Nat.lt_of_lt_of_le (by decide) (Nat.pow_le_pow_right (by decide) hk))
  unfold State.setFlags
  rw [State.setF_f, BitVec.getLsbD_or, BitVec.getLsbD_and, hmask, Bool.and_false, Bool.or_false]

theorem flagBits_flagZ : ∀ z n h cy : Bool, (flagBits z n h cy).getLsbD 7 = z := by decide
theorem flagBits_flagN : ∀ z n h cy : Bool, (flagBits z n h cy).getLsbD 6 = n := by decide
theorem flagBits_flagH : ∀ z n h cy : Bool, (flagBits z n h cy).getLsbD 5 = h := by decide
theorem flagBits_flagCy : ∀ z n h cy : Bool, (flagBits z n h cy).getLsbD 4 = cy := by decide

@[simp] theorem State.setFlags_flagZ (s : State) (z n h cy : Bool) : (s.setFlags z n h cy).flagZ = z :=
  (s.setFlags_f_getLsbD z n h cy (by decide)).trans (flagBits_flagZ z n h cy)

@[simp] theorem State.setFlags_flagN (s : State) (z n h cy : Bool) : (s.setFlags z n h cy).flagN = n :=
  (s.setFlags_f_getLsbD z n h cy (by decide)).trans (flagBits_flagN z n h cy)

@[simp] theorem State.setFlags_flagH (s : State) (z n h cy : Bool) : (s.setFlags z n h cy).flagH = h :=
  (s.setFlags_f_getLsbD z n h cy (by decide)).trans (flagBits_flagH z n h cy)

@[simp] theorem State.setFlags_flagCy (s : State) (z n h cy : Bool) : (s.setFlags z n h cy).flagCy = cy :=
  (s.setFlags_f_getLsbD z n h cy (by decide)).trans (flagBits_flagCy z n h cy)

/-! ### SP with a signed offset -/

/-- Adding a sign-extended byte is adding its signed value modulo 2^16 (R11). -/
theorem add_sext16_toNat (w : Word) (e : Byte) :
    ((w + sext16 e).toNat : Int) = ((w.toNat : Int) + e.toInt) % 65536 := by
  have hsext : ((sext16 e).toNat : Int) = e.toInt % 65536 := by
    show ((BitVec.ofInt 16 e.toInt).toNat : Int) = _
    rw [BitVec.toNat_ofInt, Int.toNat_of_nonneg (Int.emod_nonneg _ (by decide))]
    rfl
  rw [BitVec.toNat_add, Int.natCast_emod, Int.natCast_add, hsext]
  exact Int.add_emod_emod ..

/-- Settles O26: both write the same sum and the same flags, the one to HL and the other to SP. -/
theorem stackPointerOffsets : Obligations.StackPointerOffsets := by
  intro s e
  rw [exec_ldHlSpE8, exec_addSpE8]
  have hhl : (s.setHl (s.sp + sext16 e)).hl = s.sp + sext16 e := s.reg16_setReg16_same .hl _
  refine ⟨⟨_, perform_none rfl rfl rfl, ?_, State.setFlags_flagZ .., State.setFlags_flagN .., State.setFlags_flagH ..,
      State.setFlags_flagCy .., lowNibble_setFlags .., rfl⟩,
    ⟨_, perform_none rfl rfl rfl, ?_, State.setFlags_flagZ .., State.setFlags_flagN .., State.setFlags_flagH ..,
      State.setFlags_flagCy .., lowNibble_setFlags .., rfl⟩⟩
  · exact (congrArg (fun v : Word => (v.toNat : Int)) hhl).trans (add_sext16_toNat s.sp e)
  · exact add_sext16_toNat s.sp e

/-! ### Word stores -/

/-- An outcome that hands on the condition of a word write faults as `WordStoreFaults` says. -/
theorem wordStoreFaults_of_memWrite16 (h : ∀ e, memWrite16 a w b = .error e → o = e.toOutcome) :
    WordStoreFaults o a w b :=
  ⟨fun hhi => h _ (memWrite16_eq_error.2 (.inl (busWrite_of_not_writable hhi))),
    fun u hu hlo => h _ (memWrite16_eq_error.2 (.inr ⟨u, hu, busWrite_of_not_writable hlo⟩))⟩

/-- The answer of a handler that stores the word `w` at `a` from the state `b` and does nothing more. -/
def storeWord (a w : Word) (b : State) : Res (ExecutionOutcome × State) := do
  let u ← memWrite16 a w b
  return (.none, u)

theorem handleLdIndA16Sp_eq (a : Word) (s : State) : handleLdIndA16Sp a s = storeWord a s.sp s := rfl

theorem handlePush_eq (q : StackPair) (s : State) :
    handlePush q s = storeWord (s.sp - 2) (s.stackPair q) { s with sp := s.sp - 2 } := rfl

theorem perform_storeWord_faults {d : Descriptor} (h : handler s = storeWord a w b) :
    WordStoreFaults (perform d handler s) a w b := by
  refine wordStoreFaults_of_memWrite16 fun e he => perform_of_error ?_
  rw [h]
  unfold storeWord
  rw [he]
  rfl

/-- A word store whose two bytes are writable makes the two writes, the high byte's first. -/
theorem perform_storeWord (h : handler s = storeWord a w b) (hc : b.cycles = s.cycles) (hg : b.config = s.config)
    (hw : b.wordWritable a w) :
    ∃ u t, busWrite (a + 1) w.hi b = .ok u ∧ busWrite a w.lo u = .ok t ∧
      perform ⟨length, cost, 0⟩ handler s = .next (t.advanced s length cost) := by
  obtain ⟨hhi, hlo⟩ := hw
  obtain ⟨t, ht⟩ := memWrite16_completes hhi hlo
  obtain ⟨u, hu, hut⟩ := memWrite16_eq_ok.1 ht
  have hbus := memWrite16_busStep ht
  refine ⟨u, t, hu, hut, perform_none ?_ (hbus.cycles.trans hc) (hbus.config.trans hg)⟩
  rw [h]
  unfold storeWord
  rw [ht]
  rfl

/-- Settles O27: all five are one word store, PUSH from the state with SP moved. -/
theorem wordStoresAndPush : Obligations.WordStoresAndPush := by
  intro s
  simp only [exec_ldIndA16Sp, exec_push]
  have hhigh : s.sp - 1 = s.sp - 2 + 1 := by bv_omega
  rw [hhigh]
  exact ⟨fun a => perform_storeWord_faults (handleLdIndA16Sp_eq a s), fun q => perform_storeWord_faults (handlePush_eq q s),
    fun a hw => perform_storeWord (handleLdIndA16Sp_eq a s) rfl rfl hw,
    fun q hw => perform_storeWord (handlePush_eq q s) rfl rfl hw, rfl, rfl, rfl, rfl⟩

/-! ### POP -/

/-- A pop ends in the fatal of the low byte at SP, or else of the high byte at SP+1 (R237). -/
theorem pop16_eq_error {e : Stop} : pop16 s = .error e ↔ memRead16 s.sp s = .error e := by
  unfold pop16
  cases memRead16 s.sp s <;> simp

/-- A pop whose condition is raised ends in it. -/
theorem exec_pop_of_error {q : StackPair} {e : Stop} (h : memRead16 s.sp s = .error e) :
    exec (Instr.pop q) s = e.toOutcome := by
  rw [exec_pop]
  refine perform_of_error ?_
  unfold handlePop
  rw [pop16_eq_error.2 h]
  rfl

theorem exec_pop_faults (s : State) (q : StackPair) : PopFaults (Instr.pop q) s :=
  ⟨fun hlo => exec_pop_of_error (memRead16_eq_error.2 (.inl ⟨hlo, rfl⟩)),
    fun hlo hhi => exec_pop_of_error (memRead16_eq_error.2 (.inr ⟨hlo, mt State.afterRead_readable.1 hhi, rfl⟩))⟩

/-- A pop whose word is read writes it to the pair. -/
theorem exec_pop_next {u : State} (q : StackPair) (h : pop16 s = .ok (w, u)) :
    exec (Instr.pop q) s = .next ((u.setStackPair q w).advanced s 1 3) := by
  obtain ⟨v, hv, rfl⟩ := pop16_eq_ok.1 h
  have hbus := memRead16_busStep hv
  rw [exec_pop]
  refine perform_none ?_ (((State.setSp v _).setStackPair_cycles q w).trans hbus.cycles)
    (((State.setSp v _).setStackPair_config q w).trans hbus.config)
  unfold handlePop
  rw [h]
  rfl

/-- Settles O28: a word read at SP, then the register write of the pair. -/
theorem popReadsAWordAndMovesSp : Obligations.PopReadsAWordAndMovesSp := by
  refine ⟨exec_pop_faults, fun s hlo hhi => ?_⟩
  obtain ⟨w, v, hread⟩ := memRead16_completes hlo hhi
  have hpop : pop16 s = .ok (w, v.setSp (s.sp + 2)) := pop16_eq_ok.2 ⟨v, hread, rfl⟩
  obtain ⟨lo, hi, hpeekLo, hpeekHi, rfl, rfl⟩ := memRead16_eq_ok.1 hread
  have hnext (q : StackPair) := exec_pop_next q hpop
  refine ⟨lo, hi, _, hpeekLo, hpeekHi, rfl, ?_⟩
  -- the halves of the word read are the two bytes
  simp only [State.setStackPair, State.setHl, Word.hi_ofBytes, Word.lo_ofBytes] at hnext
  exact ⟨hnext .bc, hnext .de, hnext .hl, hnext .af⟩

end Sys2Proof.Machine
end

section
/-! The 8-bit arithmetic and logic (43_alu8.md). All of them answer `None` and end in a flag update: of a state with A
written (the ALU group, DAA, CPL), of one with the operand counted up or down (INC, DEC), or of the state itself (SCF,
CCF). -/

namespace Sys2Proof.Machine

variable {s b : State} {handler : Handler} {src : AluSource} {op : AluOp} {r : AluResult} {v x : Byte}
  {z n h cy : Bool} {length cost : Nat}

/-! ### Flag updates -/

theorem State.flagCy_of_f (hf : b.f = s.f) : b.flagCy = s.flagCy := congrArg (·.getLsbD 4) hf

/-- A flag update that leaves CY writes the CY it finds. -/
theorem State.setFlagsZNH_of_f (hf : b.f = s.f) : b.setFlagsZNH z n h = b.setFlags z n h s.flagCy :=
  congrArg (b.setFlags z n h) (State.flagCy_of_f hf)

/-- A handler that ends in a flag update of the state `b` leaves the flags it wrote, and beside them `b`. -/
theorem perform_setFlags (hb : handler s = .ok (.none, b.setFlags z n h cy)) (hf : b.f = s.f) (hc : b.cycles = s.cycles)
    (hg : b.config = s.config) :
    ∃ t, perform ⟨length, cost, 0⟩ handler s = .next t ∧ t.flagZ = z ∧ t.flagN = n ∧ t.flagH = h ∧ t.flagCy = cy ∧
      t.f &&& 0x0F = s.f &&& 0x0F ∧ t = ({ b with f := t.f } : State).advanced s length cost :=
  ⟨_, perform_none hb hc hg, State.setFlags_flagZ .., State.setFlags_flagN .., State.setFlags_flagH ..,
    State.setFlags_flagCy .., hf ▸ lowNibble_setFlags b z n h cy, rfl⟩

/-- The same with A written first, after accesses that only the bus could see. -/
theorem perform_setA_setFlags (hb : handler s = .ok (.none, (b.setReg8 .a x).setFlags z n h cy)) (hbus : s.BusStep b) :
    ∃ t, perform ⟨length, cost, 0⟩ handler s = .next t ∧ t.a = x ∧ t.flagZ = z ∧ t.flagN = n ∧ t.flagH = h ∧
      t.flagCy = cy ∧ t.f &&& 0x0F = s.f &&& 0x0F ∧
      t = ({ b with a := t.a, f := t.f } : State).advanced s length cost := by
  obtain ⟨t, ht, hz, hn, hh, hcy, hlow, hframe⟩ :=
    perform_setFlags (length := length) (cost := cost) hb hbus.f hbus.cycles hbus.config
  have ha : t.a = x := congrArg State.a hframe
  refine ⟨t, ht, ha, hz, hn, hh, hcy, hlow, ?_⟩
  rw [ha]
  exact hframe

/-! ### The ALU group -/

theorem aluDescriptor_eq (src : AluSource) : aluDescriptor src = ⟨(aluCost src).1, (aluCost src).2, 0⟩ := by
  cases src <;> rfl

theorem readSource_of_sourceByte (hv : s.sourceByte src = .ok v) : readSource src s = .ok (v, s.afterSource src) := by
  cases src with
  | indHl => exact busRead_of_peek hv
  | reg _ | imm _ => cases hv; rfl

theorem State.afterSource_busStep (s : State) (src : AluSource) : s.BusStep (s.afterSource src) := by
  cases src with
  | indHl => exact s.afterRead_busStep s.hl
  | reg _ | imm _ => exact .refl s

/-- Every operation of the group leaves its result and flags in A and F, and nothing else (R251 to R258). -/
theorem exec_alu_next (hv : s.sourceByte src = .ok v) (hr : aluApply op s.a v s.flagCy = r) :
    ∃ t, exec (Instr.alu op src) s = .next t ∧ t.a = r.value ∧ t.flagZ = r.z ∧ t.flagN = r.n ∧ t.flagH = r.h ∧
      t.flagCy = r.cy ∧ t.f &&& 0x0F = s.f &&& 0x0F ∧
      t = ({ s.afterSource src with a := t.a, f := t.f } : State).advanced s (aluCost src).1 (aluCost src).2 := by
  have hbus := s.afterSource_busStep src
  rw [exec_alu, aluDescriptor_eq]
  refine perform_setA_setFlags ?_ hbus
  unfold handleAlu
  simp only [readSource_of_sourceByte hv, Res.ok_bind, Res.pure_eq, hbus.a, State.flagCy_of_f hbus.f, hr]

/-- An unreadable (HL) is the fatal of its address, whatever the operation (R72, R250). -/
theorem exec_alu_indHl_fault (op : AluOp) (hs : ¬ s.readable s.hl) :
    exec (Instr.alu op .indHl) s = .fault (.biosAbsent s.hl) := by
  rw [exec_alu]
  refine perform_of_error (e := .fault (.biosAbsent s.hl)) ?_
  unfold handleAlu readSource
  rw [busRead_eq_error.2 ⟨hs, rfl⟩]
  rfl

theorem aluAdd_value_toNat (a v : Byte) (c : Bool) : (aluAdd a v c).value.toNat = (a.toNat + v.toNat + c.toNat) % 256 :=
  BitVec.toNat_ofNat ..

theorem aluSub_value_toNat (a v : Byte) (c : Bool) :
    ((aluSub a v c).value.toNat : Int) = ((a.toNat : Int) - v.toNat - c.toNat) % 256 := by
  unfold aluSub
  rw [BitVec.toNat_ofInt, Int.toNat_of_nonneg (Int.emod_nonneg _ (by decide))]
  rfl

/-- Settles O29: ADD is the addition with carry-in 0, ADC with carry-in CY. -/
theorem addAndAdc : Obligations.AddAndAdc := by
  refine ⟨fun s op _ => exec_alu_indHl_fault op, fun s src v hv op hop c hc => ?_⟩
  obtain ⟨cin, hcin, hr⟩ : ∃ cin : Bool, cin.toNat = c ∧ aluApply op s.a v s.flagCy = aluAdd s.a v cin := by
    rcases hop with rfl | rfl
    · exact ⟨false, hc.symm, rfl⟩
    · exact ⟨s.flagCy, hc.symm, rfl⟩
  subst hcin
  obtain ⟨t, ht, ha, hflags⟩ := exec_alu_next hv hr
  exact ⟨t, ht, by rw [ha, aluAdd_value_toNat], hflags⟩

/-- Settles O30: SUB and CP are the subtraction with borrow-in 0, SBC with borrow-in CY, and CP puts A back. -/
theorem subSbcAndCp : Obligations.SubSbcAndCp := by
  refine ⟨fun s op _ => exec_alu_indHl_fault op, fun s src v hv op hop c hc => ?_⟩
  subst hc
  obtain ⟨t, ht, ha, hflags⟩ := exec_alu_next (op := op) hv rfl
  refine ⟨t, ht, ?_, ?_⟩
  · rw [ha]
    rcases hop with rfl | rfl | rfl
    · exact aluSub_value_toNat s.a v false
    · exact aluSub_value_toNat s.a v s.flagCy
    · rfl
  · rcases hop with rfl | rfl | rfl <;> exact hflags

/-- Settles O31: the three differ in the result and in H. -/
theorem andXorAndOr : Obligations.AndXorAndOr := by
  refine ⟨fun s op _ => exec_alu_indHl_fault op, fun s src v hv op r hop => ?_⟩
  have hr : aluApply op s.a v s.flagCy = aluLogic r (decide (op = .and)) := by
    rcases hop with hop | hop | hop <;> cases hop <;> rfl
  exact exec_alu_next hv hr

/-! ### Read-modify-write -/

section
variable {g : Byte → Byte} {f : Byte → State → State} {d : Descriptor}

/-- The handler of a read-modify-write: the operand `v` becomes `g v`, then the register update `f` with the byte read. -/
def modifyThen (o : Operand8) (g : Byte → Byte) (f : Byte → State → State) : Handler := fun s => do
  let (v, s) ← readOperand8 o s
  let s ← writeOperand8 o (g v) s
  return (.none, f v s)

theorem modifyThen_reg (q : Reg8) (g : Byte → Byte) (f : Byte → State → State) (s : State) :
    modifyThen (.reg q) g f s = .ok (.none, f (s.reg8 q) (s.setReg8 q (g (s.reg8 q)))) := rfl

/-- At HL: one read, then one write of the same address. -/
theorem modifyThen_indHl (hv : s.peek s.hl = .ok v) :
    modifyThen .indHl g f s = (do
      let u ← busWrite s.hl (g v) (s.afterRead s.hl)
      return (.none, f v u)) := by
  unfold modifyThen readOperand8 writeOperand8
  simp only [busRead_of_peek hv, Res.ok_bind, (s.afterRead_busStep s.hl).hl]

/-- Where the byte at HL is read and may be written, the write completes. -/
theorem modifyThen_indHl_completes (f : Byte → State → State) (hv : s.peek s.hl = .ok v) (hw : s.writable s.hl (g v)) :
    ∃ u, busWrite s.hl (g v) (s.afterRead s.hl) = .ok u ∧ s.BusStep u ∧
      modifyThen .indHl g f s = .ok (.none, f v u) := by
  have hread := s.afterRead_busStep s.hl
  obtain ⟨u, hu⟩ := busWrite_completes (hread.writable hw)
  refine ⟨u, hu, hread.trans (busWrite_busStep hu), ?_⟩
  rw [modifyThen_indHl hv, hu]
  rfl

/-- An unreadable byte at HL is the fatal of its address (R72). -/
theorem perform_modifyThen_unreadable (h : handler s = modifyThen .indHl g f s) (hs : ¬ s.readable s.hl) :
    perform d handler s = .fault (.biosAbsent s.hl) := by
  refine perform_of_error (e := .fault (.biosAbsent s.hl)) ?_
  rw [h]
  unfold modifyThen readOperand8
  rw [busRead_eq_error.2 ⟨hs, rfl⟩]
  rfl

/-- A read changes neither the latch nor the BIOS, so it changes no address's writability. -/
theorem State.afterRead_writable {a a' : Word} : (s.afterRead a').writable a v ↔ s.writable a v := by
  rw [State.afterRead_eq]
  exact Iff.rfl

/-- A write at HL that is not writable is the fatal of the copy it starts (R95). -/
theorem perform_modifyThen_unwritable (h : handler s = modifyThen .indHl g f s) (hv : s.peek s.hl = .ok v)
    (hw : ¬ s.writable s.hl (g v)) : perform d handler s = .fault (.biosAbsent 0x0000) := by
  refine perform_of_error (e := .fault (.biosAbsent 0x0000)) ?_
  rw [h, modifyThen_indHl hv, busWrite_of_not_writable (mt State.afterRead_writable.1 hw)]
  rfl

end

/-! ### INC and DEC -/

section
variable {g : Byte → Byte} {last : Byte}

/-- INC and DEC: the operand becomes `g` of itself, with Z from the result and H from the byte read (R259 to R262). -/
def handleCount (o : Operand8) (g : Byte → Byte) (n : Bool) (half : Byte → Bool) : Handler :=
  modifyThen o g fun v u => u.setFlagsZNH (decide (g v = 0)) n (half v)

theorem handleInc8_eq (o : Operand8) : handleInc8 o = handleCount o (· + 1) false incHalf := rfl

theorem handleDec8_eq (o : Operand8) : handleDec8 o = handleCount o (· - 1) true decHalf := rfl

/-- The register form: the register is counted, CY and the other registers are kept; `last` is the byte counted to 0. -/
theorem perform_handleCount_reg (hlast : ∀ v, g v = 0 ↔ v = last) (n : Bool) (half : Byte → Bool) (q : Reg8) (s : State) :
    ∃ t, perform ⟨1, 1, 0⟩ (handleCount (.reg q) g n half) s = .next t ∧ t.reg8 q = g (s.reg8 q) ∧
      t.flagZ = decide (s.reg8 q = last) ∧ t.flagN = n ∧ t.flagH = half (s.reg8 q) ∧ t.flagCy = s.flagCy ∧
      t.f &&& 0x0F = s.f &&& 0x0F ∧ (∀ q', q' ≠ q → t.reg8 q' = s.reg8 q') ∧
      t = ({ s with a := t.a, b := t.b, c := t.c, d := t.d, e := t.e, h := t.h, l := t.l, f := t.f } : State).advanced
        s 1 1 := by
  have hcount := modifyThen_reg q g (fun v u => u.setFlagsZNH (decide (g v = 0)) n (half v)) s
  rw [State.setFlagsZNH_of_f (s.setReg8_f q _)] at hcount
  obtain ⟨t, ht, hz, hn, hh, hcy, hlow, hframe⟩ :=
    perform_setFlags (length := 1) (cost := 1) hcount (s.setReg8_f q _) (s.setReg8_cycles q _) (s.setReg8_config q _)
  have hreg (q' : Reg8) : t.reg8 q' = (s.setReg8 q (g (s.reg8 q))).reg8 q' := by
    rw [hframe]
    cases q' <;> rfl
  refine ⟨t, ht, (hreg q).trans (s.reg8_setReg8_same q _), hz.trans (decide_eq_decide.2 (hlast _)), hn, hh, hcy,
    hlow, fun q' hq => (hreg q').trans (s.reg8_setReg8_other _ hq), ?_⟩
  rw [hframe]
  cases q <;> rfl

/-- The memory form: one read, one write at the same address, and the flags of the byte read. -/
theorem perform_handleCount_indHl (hlast : ∀ v, g v = 0 ↔ v = last) (n : Bool) (half : Byte → Bool)
    (hv : s.peek s.hl = .ok v) (hw : s.writable s.hl (g v)) :
    ∃ u t, busWrite s.hl (g v) (s.afterRead s.hl) = .ok u ∧
      perform ⟨1, 3, 0⟩ (handleCount .indHl g n half) s = .next t ∧ t.flagZ = decide (v = last) ∧ t.flagN = n ∧
      t.flagH = half v ∧ t.flagCy = s.flagCy ∧ t.f &&& 0x0F = s.f &&& 0x0F ∧
      t = ({ u with f := t.f } : State).advanced s 1 3 := by
  obtain ⟨u, hu, hbus, hcount⟩ :=
    modifyThen_indHl_completes (fun v u => u.setFlagsZNH (decide (g v = 0)) n (half v)) hv hw
  rw [State.setFlagsZNH_of_f hbus.f, decide_eq_decide.2 (hlast v)] at hcount
  obtain ⟨t, hnext⟩ := perform_setFlags (length := 1) (cost := 3) hcount hbus.f hbus.cycles hbus.config
  exact ⟨u, t, hu, hnext⟩

end

theorem Byte.add_one_eq_zero_iff (v : Byte) : v + 1 = 0 ↔ v = 0xFF := by bv_omega

theorem Byte.sub_one_eq_zero_iff (v : Byte) : v - 1 = 0 ↔ v = 0x01 := sub_eq_zero

/-- Settles O32: INC and DEC count the register by 1 and by -1, and Z says that the old value was the last before 0. -/
theorem incAndDecOfRegisters : Obligations.IncAndDecOfRegisters := by
  intro s r
  rw [exec_inc8, exec_dec8, handleInc8_eq, handleDec8_eq]
  obtain ⟨t, ht, hreg, hinc⟩ := perform_handleCount_reg Byte.add_one_eq_zero_iff false incHalf r s
  obtain ⟨w, hw, hreg', hdec⟩ := perform_handleCount_reg Byte.sub_one_eq_zero_iff true decHalf r s
  refine ⟨⟨t, ht, ?_, hinc⟩, ⟨w, hw, ?_, hdec⟩⟩
  · rw [hreg, BitVec.toNat_add]
    rfl
  · rw [hreg', BitVec.toNat_sub, Nat.add_comm]
    rfl

/-- Settles O33: the read, the write at the same address and the flags of the byte read, or the first fatal among them. -/
theorem incAndDecOfMemory : Obligations.IncAndDecOfMemory := by
  have hinc (s : State) : exec .incIndHl s = perform ⟨1, 3, 0⟩ (handleCount .indHl (· + 1) false incHalf) s := rfl
  have hdec (s : State) : exec .decIndHl s = perform ⟨1, 3, 0⟩ (handleCount .indHl (· - 1) true decHalf) s := rfl
  refine ⟨fun s hs => ?_, fun s v hv => ?_, fun s v hv => ?_⟩ <;> rw [hinc, hdec]
  · exact ⟨perform_modifyThen_unreadable rfl hs, perform_modifyThen_unreadable rfl hs⟩
  · exact ⟨perform_modifyThen_unwritable (g := (· + 1)) rfl hv, perform_modifyThen_unwritable (g := (· - 1)) rfl hv⟩
  · exact ⟨perform_handleCount_indHl Byte.add_one_eq_zero_iff false incHalf hv,
      perform_handleCount_indHl Byte.sub_one_eq_zero_iff true decHalf hv⟩

/-! ### DAA -/

/-- The adjustment by its two halves (R263). -/
theorem daaAdjustment_toNat : ∀ low high : Bool,
    ((if low then 0x06 else 0 : Byte) ||| (if high then 0x60 else 0)).toNat =
      (if low then 6 else 0) + (if high then 0x60 else 0) := by decide

theorem Byte.sub_toNat_int (a v : Byte) : ((a - v).toNat : Int) = ((a.toNat : Int) - v.toNat) % 256 := by
  rw [BitVec.toNat_sub]
  omega

/-- After a subtraction only the flags call for the adjustment (R263, N = 1). -/
theorem daaResult_of_n (a : Byte) (h cy : Bool) :
    ((daaResult a true h cy).1.toNat : Int) =
      ((a.toNat : Int) - ((if h = true then 6 else 0 : Nat) + (if cy = true then 0x60 else 0 : Nat))) % 256 ∧
    (daaResult a true h cy).2 = cy := by
  refine ⟨(Byte.sub_toNat_int _ _).trans ?_, rfl⟩
  rw [daaAdjustment_toNat, Int.natCast_add]

/-- After an addition A's digits call for it too, as they were before it (R263, N = 0). -/
theorem daaResult_of_not_n (a : Byte) (h cy : Bool) :
    (daaResult a false h cy).1.toNat =
      (a.toNat + ((if h = true ∨ a.toNat % 16 > 9 then 6 else 0) + (if cy = true ∨ a.toNat > 0x99 then 0x60 else 0))) %
        256 ∧
    (daaResult a false h cy).2 = decide (cy = true ∨ a.toNat > 0x99) := by
  refine ⟨(BitVec.toNat_add _ _).trans ?_, by simp [daaResult]⟩
  rw [daaAdjustment_toNat]
  simp only [Bool.or_eq_true, decide_eq_true_eq]

/-- DAA leaves its result and carry, Z from the result, N as it was and H 0. -/
theorem exec_daa_next (s : State) :
    ∃ t, exec .daa s = .next t ∧ t.a = (daaResult s.a s.flagN s.flagH s.flagCy).1 ∧
      t.flagZ = decide ((daaResult s.a s.flagN s.flagH s.flagCy).1 = 0) ∧ t.flagN = s.flagN ∧ t.flagH = false ∧
      t.flagCy = (daaResult s.a s.flagN s.flagH s.flagCy).2 ∧ t.f &&& 0x0F = s.f &&& 0x0F ∧
      t = ({ s with a := t.a, f := t.f } : State).advanced s 1 1 :=
  perform_setA_setFlags (handler := handleDaa) rfl (.refl s)

/-- Settles O34: the two branches of the rule, on N. -/
theorem daaResultAndFlags : Obligations.DaaResultAndFlags := by
  intro s low high hlow hhigh
  obtain ⟨t, ht, ha, hz, hn, hh, hcy, hframe⟩ := exec_daa_next s
  refine ⟨t, ht, ?_, ha ▸ hz, hn, hh, hcy.trans ?_, hframe⟩
  all_goals subst hlow hhigh
  · rw [ha]
    cases s.flagN
    · simpa using congrArg (fun k : Nat => (k : Int)) (daaResult_of_not_n s.a s.flagH s.flagCy).1
    · simpa using (daaResult_of_n s.a s.flagH s.flagCy).1
  · cases s.flagN
    · simpa using (daaResult_of_not_n s.a s.flagH s.flagCy).2
    · simpa using (daaResult_of_n s.a s.flagH s.flagCy).2

/-! ### DAA after ADD and SUB -/

section
variable {x y : Nat} {a : Byte}

/-- A two-digit decimal number in BCD: the tens in the high nibble, the units in the low one. -/
def bcd (x : Nat) : Nat := x / 10 * 16 + x % 10

theorem bcd_mod_sixteen (x : Nat) : bcd x % 16 = x % 10 := by
  unfold bcd
  omega

theorem bcd_mod_hundred (x : Nat) : bcd (x % 100) = x % 100 / 10 * 16 + x % 10 := by
  unfold bcd
  omega

theorem bcd_lt_bcd_iff (x y : Nat) : bcd x < bcd y ↔ x < y := by
  unfold bcd
  omega

/-- The low half of the adjustment is made exactly when the units carry. -/
theorem bcd_sum_low (x y : Nat) :
    bcd x % 16 + bcd y % 16 > 0x0F ∨ (bcd x + bcd y) % 256 % 16 > 9 ↔ x % 10 + y % 10 ≥ 10 := by
  unfold bcd
  omega

/-- The high half is made exactly when the sum has three digits. -/
theorem bcd_sum_high (hx : x < 100) (hy : y < 100) :
    bcd x + bcd y > 0xFF ∨ (bcd x + bcd y) % 256 > 0x99 ↔ x + y ≥ 100 := by
  have hsum : bcd x + bcd y > 0x99 ↔ x + y ≥ 100 := by
    unfold bcd
    omega
  rw [← hsum]
  unfold bcd
  omega

theorem bcd_sum_adjusted (hx : x < 100) (hy : y < 100) :
    (bcd x + bcd y + ((if x % 10 + y % 10 ≥ 10 then 6 else 0) + (if x + y ≥ 100 then 0x60 else 0))) % 256 =
      bcd ((x + y) % 100) := by
  have hunits : (x + y) % 100 % 10 = x % 10 + y % 10 - if x % 10 + y % 10 ≥ 10 then 10 else 0 := by split <;> omega
  have hvalue : (x + y) % 100 = x + y - if x + y ≥ 100 then 100 else 0 := by split <;> omega
  unfold bcd
  split_ifs at hunits hvalue ⊢ <;> omega

theorem bcd_difference_adjusted (hx : x < 100) (hy : y < 100) :
    ((bcd x : Int) - bcd y - ((if x % 10 < y % 10 then 6 else 0 : Nat) + (if x < y then 0x60 else 0 : Nat))) % 256 =
      bcd ((x + 100 - y) % 100) := by
  unfold bcd
  split_ifs <;> omega

/-- DAA after ADD: the flags and the digits of the binary sum are those of `bcd_sum_low` and `bcd_sum_high`. -/
theorem daaResult_aluAdd (hx : x < 100) (hy : y < 100) (ha : a.toNat = bcd x) (hv : v.toNat = bcd y)
    (hr : aluAdd a v false = r) :
    (daaResult r.value r.n r.h r.cy).1.toNat = bcd ((x + y) % 100) ∧
    (daaResult r.value r.n r.h r.cy).2 = decide (x + y ≥ 100) := by
  have hvalue : r.value.toNat = (bcd x + bcd y) % 256 := by
    rw [← hr, aluAdd_value_toNat, ha, hv, Bool.toNat_false, Nat.add_zero]
  have hh : r.h = true ↔ bcd x % 16 + bcd y % 16 > 0x0F := by
    simp only [← hr, aluAdd, ha, hv, decide_eq_true_eq, Bool.toNat_false, Nat.add_zero]
  have hcy : r.cy = true ↔ bcd x + bcd y > 0xFF := by
    simp only [← hr, aluAdd, ha, hv, decide_eq_true_eq, Bool.toNat_false, Nat.add_zero]
  have hn : r.n = false := by rw [← hr]; rfl
  have hdaa := daaResult_of_not_n r.value r.h r.cy
  simp only [hvalue, hh, hcy, bcd_sum_low, bcd_sum_high hx hy, Nat.mod_add_mod, bcd_sum_adjusted hx hy] at hdaa
  rw [hn]
  exact hdaa

/-- DAA after SUB: H is the borrow of the units, CY the borrow of the whole. -/
theorem daaResult_aluSub (hx : x < 100) (hy : y < 100) (ha : a.toNat = bcd x) (hv : v.toNat = bcd y)
    (hr : aluSub a v false = r) :
    (daaResult r.value r.n r.h r.cy).1.toNat = bcd ((x + 100 - y) % 100) ∧
    (daaResult r.value r.n r.h r.cy).2 = decide (x < y) := by
  have hvalue : (r.value.toNat : Int) = ((bcd x : Int) - bcd y) % 256 := by
    rw [← hr, aluSub_value_toNat, ha, hv, Bool.toNat_false, Int.natCast_zero, Int.sub_zero]
  have hh : r.h = decide (x % 10 < y % 10) := by
    simp only [← hr, aluSub, ha, hv, bcd_mod_sixteen, Bool.toNat_false, Nat.add_zero]
  have hcy : r.cy = decide (x < y) := by
    simp only [← hr, aluSub, ha, hv, bcd_lt_bcd_iff, Bool.toNat_false, Nat.add_zero]
  have hn : r.n = true := by rw [← hr]; rfl
  obtain ⟨hres, hborrow⟩ := daaResult_of_n r.value r.h r.cy
  rw [hvalue, Int.emod_sub_emod] at hres
  simp only [hh, hcy, decide_eq_true_eq, bcd_difference_adjusted hx hy, Int.natCast_inj] at hres
  rw [hn, hborrow, hh, hcy]
  exact ⟨hres, rfl⟩

end

/-- An operation of the group and then DAA: DAA adjusts its result by its flags. -/
theorem exec_alu_daa (hv : s.sourceByte src = .ok v) (hr : aluApply op s.a v s.flagCy = r) :
    ∃ t w, exec (Instr.alu op src) s = .next t ∧ exec .daa t = .next w ∧
      w.a = (daaResult r.value r.n r.h r.cy).1 ∧ w.flagCy = (daaResult r.value r.n r.h r.cy).2 := by
  obtain ⟨t, ht, ha, -, hn, hh, hcy, -⟩ := exec_alu_next hv hr
  obtain ⟨w, hw, hwa, -, -, -, hwcy, -⟩ := exec_daa_next t
  rw [ha, hn, hh, hcy] at hwa hwcy
  exact ⟨t, w, ht, hw, hwa, hwcy⟩

/-- Settles O35: on BCD digits the flags and the digits of the binary result say where the decimal one carries or
borrows. -/
theorem daaAdjustsBcdSumsAndDifferences : Obligations.DaaAdjustsBcdSumsAndDifferences := by
  intro s x y src v hx hy ha hv hvy
  obtain ⟨t, w, ht, hw, hsum, hcarry⟩ := exec_alu_daa (op := .add) hv rfl
  obtain ⟨t', w', ht', hw', hdiff, hborrow⟩ := exec_alu_daa (op := .sub) hv rfl
  obtain ⟨hsum', hcarry'⟩ := daaResult_aluAdd hx hy ha hvy rfl
  obtain ⟨hdiff', hborrow'⟩ := daaResult_aluSub hx hy ha hvy rfl
  refine ⟨⟨t, w, ht, hw, ?_, hcarry.trans hcarry'⟩, ⟨t', w', ht', hw', ?_, hborrow.trans hborrow'⟩⟩
  · rw [hsum, ← bcd_mod_hundred]
    exact hsum'
  · rw [hdiff, ← bcd_mod_hundred]
    exact hdiff'

/-! ### CPL, SCF and CCF -/

/-- Settles O36: each is a flag update, CPL's with A written. -/
theorem cplScfAndCcf : Obligations.CplScfAndCcf := by
  intro s
  obtain ⟨t, ht, ha, hflags⟩ :=
    perform_setA_setFlags (handler := handleCpl) (length := 1) (cost := 1) rfl (State.BusStep.refl s)
  refine ⟨⟨t, ht, by rw [ha, BitVec.toNat_not], hflags⟩, ?_, ?_⟩
  · exact perform_setFlags (handler := handleScf) rfl rfl rfl rfl
  · exact perform_setFlags (handler := handleCcf) rfl rfl rfl rfl

end Sys2Proof.Machine
end

section
/-! The 16-bit arithmetic (44_alu16.md, R290 to R292); ADD SP,e8 stands with the 16-bit loads. All of them answer `None`:
ADD HL,rr is a flag update of a state with HL written, INC rr and DEC rr are one register write. -/

namespace Sys2Proof.Machine

variable {s : State} {handler : Handler} {v : Word} {length cost : Nat}

/-! ### A write of a pair -/

theorem State.reg16_advanced (u s : State) (length cost : Nat) (p : Reg16) :
    (u.advanced s length cost).reg16 p = u.reg16 p := by
  cases p <;> rfl

theorem State.reg16_setReg16_other (s : State) {p q : Reg16} (v : Word) (h : q ≠ p) :
    (s.setReg16 p v).reg16 q = s.reg16 q := by
  cases p <;> cases q
  case bc.bc | de.de | hl.hl | sp.sp => exact absurd rfl h
  all_goals rfl

/-- The next state of a write of a pair: the pair holds the word, the others are kept, and beside the registers of the pairs
only PC and the cycle count move. -/
theorem perform_setReg16 {p : Reg16} (h : handler s = .ok (.none, s.setReg16 p v)) :
    ∃ t, perform ⟨length, cost, 0⟩ handler s = .next t ∧ t.reg16 p = v ∧ (∀ q, q ≠ p → t.reg16 q = s.reg16 q) ∧
      t = ({ s with b := t.b, c := t.c, d := t.d, e := t.e, h := t.h, l := t.l, sp := t.sp } : State).advanced
        s length cost := by
  refine ⟨(s.setReg16 p v).advanced s length cost, perform_none h (s.setReg16_cycles p v) (s.setReg16_config p v), ?_,
    fun q hq => ?_, ?_⟩
  · rw [State.reg16_advanced, State.reg16_setReg16_same]
  · rw [State.reg16_advanced, State.reg16_setReg16_other s v hq]
  · cases p <;> rfl

/-! ### ADD HL,rr -/

/-- ADD HL,rr leaves the sum in HL, Z as it was, and the carries out of bits 11 and 15 in H and CY (R290). -/
theorem exec_addHl_next (p : Reg16) (s : State) :
    ∃ t, exec (Instr.addHl p) s = .next t ∧ t.hl = s.hl + s.reg16 p ∧ t.flagZ = s.flagZ ∧ t.flagN = false ∧
      t.flagH = addHlHalf s.hl (s.reg16 p) ∧ t.flagCy = addHlCarry s.hl (s.reg16 p) ∧
      t.f &&& 0x0F = s.f &&& 0x0F ∧ t = ({ s with h := t.h, l := t.l, f := t.f } : State).advanced s 1 2 := by
  obtain ⟨t, ht, hz, hn, hh, hcy, hlow, hframe⟩ :=
    perform_setFlags (handler := handleAddHl p) (b := s.setHl (s.hl + s.reg16 p)) (length := 1) (cost := 2)
      rfl rfl rfl rfl
  have hhl : t.hl = s.hl + s.reg16 p := (congrArg State.hl hframe).trans (s.reg16_setReg16_same .hl _)
  rw [exec_addHl]
  refine ⟨t, ht, hhl, hz, hn, hh, hcy, hlow, ?_⟩
  rw [hframe]
  rfl

/-- Settles O37: ADD HL,rr is a flag update of the sum, INC rr and DEC rr write one pair and so no flag. -/
theorem pairArithmetic : Obligations.PairArithmetic := by
  intro s p
  obtain ⟨t, ht, hsum, hflags⟩ := exec_addHl_next p s
  obtain ⟨u, hu, hinc, hincFrame⟩ := perform_setReg16 (handler := handleInc16 p) (length := 1) (cost := 2) (s := s) rfl
  obtain ⟨w, hw, hdec, hdecFrame⟩ := perform_setReg16 (handler := handleDec16 p) (length := 1) (cost := 2) (s := s) rfl
  rw [exec_inc16, exec_dec16]
  refine ⟨⟨t, ht, ?_, hflags⟩, ⟨u, hu, ?_, hincFrame⟩, ⟨w, hw, ?_, hdecFrame⟩⟩
  · rw [hsum, BitVec.toNat_add]
  · rw [hinc, BitVec.toNat_add]
    rfl
  · rw [hdec, BitVec.toNat_sub, Nat.add_comm]
    rfl

end Sys2Proof.Machine
end

section
/-! The rotates, shifts and bits (45_rotate_shift_bit.md, R300 to R315). All of them answer `None`. The accumulator
rotates and BIT are flag updates; the others read an operand and write it back, the shifts with flags, RES and SET
without. On bytes, a shift is the arithmetic of `shiftResult`, and RES and SET change one bit. -/

namespace Sys2Proof.Machine

variable {s b : State} {handler : Handler} {q : Reg8} {o : Operand8} {g : Byte → Byte} {v x : Byte}
  {z n h cy : Bool} {length cost : Nat}

/-! ### Bits of a byte -/

theorem Byte.getLsbD_eq_decide (v : Byte) (k : Nat) : v.getLsbD k = decide (v.toNat / 2 ^ k % 2 = 1) :=
  (BitVec.testBit_toNat v).symm.trans Nat.testBit_eq_decide_div_mod_eq

theorem Byte.lowBit_eq_decide (v : Byte) : v.getLsbD 0 = decide (v.toNat % 2 = 1) := by
  rw [Byte.getLsbD_eq_decide, Nat.pow_zero, Nat.div_one]

theorem Byte.highBit_eq_decide (v : Byte) : v.getLsbD 7 = decide (v.toNat / 128 = 1) := by
  have hv := v.isLt
  rw [Byte.getLsbD_eq_decide, decide_eq_decide]
  omega

theorem Byte.lowBit_toNat (v : Byte) : (v.getLsbD 0).toNat = v.toNat % 2 := by
  rw [Byte.lowBit_eq_decide]
  rcases Nat.mod_two_eq_zero_or_one v.toNat with h | h <;> rw [h] <;> rfl

theorem Byte.highBit_toNat (v : Byte) : (v.getLsbD 7).toNat = v.toNat / 128 := by
  have hv : v.toNat / 128 < 2 := Nat.div_lt_of_lt_mul v.isLt
  rw [Byte.highBit_eq_decide]
  interval_cases v.toNat / 128 <;> rfl

theorem Byte.setWidth_ofBool_toNat : ∀ c : Bool, ((BitVec.ofBool c).setWidth 8).toNat = c.toNat := by decide

/-! ### The shifts on bytes -/

/-- Bits put below a shifted number are added to it. -/
theorem shiftLeft_or_eq_add {k l i : Nat} (hl : l < 2 ^ i) : k <<< i ||| l = k * 2 ^ i + l := by
  rw [← Nat.shiftLeft_add_eq_or_of_lt hl, Nat.shiftLeft_eq]

/-- A left shift doubles, with bit 7 lost to the carry, and adds the bit that enters. -/
theorem shiftLeftIn_toNat (v : Byte) (c : Bool) : (shiftLeftIn v c).1.toNat = v.toNat * 2 % 256 + c.toNat := by
  have hdouble : v.toNat <<< 1 % 2 ^ 8 = (v.toNat % 128) <<< 1 := by
    rw [Nat.shiftLeft_eq, Nat.shiftLeft_eq]
    omega
  unfold shiftLeftIn
  rw [BitVec.toNat_or, BitVec.toNat_shiftLeft, Byte.setWidth_ofBool_toNat, hdouble, shiftLeft_or_eq_add c.toNat_lt]
  omega

/-- A right shift halves, with bit 0 lost to the carry, and adds the bit that enters as bit 7. -/
theorem shiftRightIn_toNat (v : Byte) (c : Bool) : (shiftRightIn v c).1.toNat = v.toNat / 2 + c.toNat * 128 := by
  have hhalf : v.toNat / 2 ^ 1 < 2 ^ 7 := Nat.div_lt_of_lt_mul v.isLt
  have hbit : ((BitVec.ofBool c).setWidth 8 <<< 7).toNat = c.toNat <<< 7 := by cases c <;> rfl
  unfold shiftRightIn
  rw [BitVec.toNat_or, BitVec.toNat_ushiftRight, hbit, Nat.shiftRight_eq_div_pow, Nat.or_comm,
    shiftLeft_or_eq_add hhalf]
  omega

/-- SWAP puts the low nibble above the high one. -/
theorem shiftApply_swap_toNat (v : Byte) (cy : Bool) :
    (shiftApply .swap v cy).1.toNat = v.toNat % 16 * 16 + v.toNat / 16 := by
  have hhigh : v.toNat / 2 ^ 4 < 2 ^ 4 := Nat.div_lt_of_lt_mul v.isLt
  unfold shiftApply
  rw [BitVec.toNat_append, BitVec.extractLsb'_toNat, BitVec.extractLsb'_toNat, Nat.shiftRight_zero,
    Nat.shiftRight_eq_div_pow, Nat.mod_eq_of_lt hhigh, shiftLeft_or_eq_add hhigh]
  rfl

/-- The result of every shift is the arithmetic of its rule (R305 to R312). -/
theorem shiftApply_toNat (op : ShiftOp) (v : Byte) (cy : Bool) :
    (shiftApply op v cy).1.toNat = (shiftResult op v.toNat cy).1 := by
  cases op with
  | rlc => exact (shiftLeftIn_toNat v _).trans (by rw [Byte.highBit_toNat]; rfl)
  | rl => exact shiftLeftIn_toNat v cy
  | sla => exact shiftLeftIn_toNat v false
  | rrc => exact (shiftRightIn_toNat v _).trans (by rw [Byte.lowBit_toNat]; rfl)
  | rr => exact shiftRightIn_toNat v cy
  | sra => exact (shiftRightIn_toNat v _).trans (by rw [Byte.highBit_toNat]; rfl)
  | srl => exact (shiftRightIn_toNat v false).trans (by rw [Bool.toNat_false, Nat.zero_mul]; rfl)
  | swap => exact shiftApply_swap_toNat v cy

/-- The carry of every shift is the bit shifted out, SWAP's is 0. -/
theorem shiftApply_carry (op : ShiftOp) (v : Byte) (cy : Bool) :
    (shiftApply op v cy).2 = (shiftResult op v.toNat cy).2 := by
  cases op with
  | rlc | rl | sla => exact Byte.highBit_eq_decide v
  | rrc | rr | sra | srl => exact Byte.lowBit_eq_decide v
  | swap => rfl

/-- The byte that holds the result is the one the shift computes. -/
theorem eq_shiftApply_iff {r : Byte} :
    r = (shiftApply op v cy).1 ↔ r.toNat = (shiftResult op v.toNat cy).1 := by
  rw [← shiftApply_toNat, BitVec.toNat_inj]

/-! ### The accumulator rotates -/

/-- Settles O38: each is a flag update with A written, by the shift of the same name. -/
theorem accumulatorRotates : Obligations.AccumulatorRotates := by
  intro s i op hi
  have hexec : exec i s = perform ⟨1, 1, 0⟩ (handleRotateA op) s := by
    simp only [List.mem_cons, List.not_mem_nil, or_false, Prod.mk.injEq] at hi
    rcases hi with ⟨rfl, rfl⟩ | ⟨rfl, rfl⟩ | ⟨rfl, rfl⟩ | ⟨rfl, rfl⟩ <;> rfl
  obtain ⟨t, ht, ha, hz, hn, hh, hcy, hframe⟩ :=
    perform_setA_setFlags (handler := handleRotateA op) (length := 1) (cost := 1) rfl (.refl s)
  rw [hexec, ← shiftApply_toNat, ← shiftApply_carry]
  exact ⟨t, ht, congrArg _ ha, hz, hn, hh, hcy, hframe⟩

/-! ### The shifts over every operand -/

/-- The flags of a shift of the byte `v` (R304). -/
def setShiftFlags (op : ShiftOp) (cy : Bool) (v : Byte) (u : State) : State :=
  u.setFlags (decide ((shiftApply op v cy).1 = 0)) false false (shiftApply op v cy).2

theorem readOperand8_busStep (h : readOperand8 o s = .ok (v, b)) : s.BusStep b := by
  cases o with
  | reg _ => cases h; exact .refl s
  | indHl => exact busRead_busStep h

/-- The read changes no flag, so the carry that enters is that of the state before it. -/
theorem handleShift_eq (op : ShiftOp) (o : Operand8) (s : State) :
    handleShift op o s = modifyThen o (fun v => (shiftApply op v s.flagCy).1) (setShiftFlags op s.flagCy) s := by
  unfold handleShift modifyThen setShiftFlags
  cases hread : readOperand8 o s with
  | error e => simp only [Res.error_bind]
  | ok read =>
    obtain ⟨v, u⟩ := read
    simp only [Res.ok_bind, State.flagCy_of_f (readOperand8_busStep hread).f]

/-- The next state of a register write with a flag update: the register holds the byte, the others are kept, and beside
the registers and the flags only PC and the cycle count move. -/
theorem perform_setReg8_setFlags (hb : handler s = .ok (.none, (s.setReg8 q x).setFlags z n h cy)) :
    ∃ t, perform ⟨length, cost, 0⟩ handler s = .next t ∧ t.reg8 q = x ∧ t.flagZ = z ∧ t.flagN = n ∧ t.flagH = h ∧
      t.flagCy = cy ∧ t.f &&& 0x0F = s.f &&& 0x0F ∧ (∀ q', q' ≠ q → t.reg8 q' = s.reg8 q') ∧
      t = ({ s with a := t.a, b := t.b, c := t.c, d := t.d, e := t.e, h := t.h, l := t.l, f := t.f } : State).advanced
        s length cost := by
  obtain ⟨t, ht, hz, hn, hh, hcy, hlow, hframe⟩ := perform_setFlags (length := length) (cost := cost) hb
    (s.setReg8_f q x) (s.setReg8_cycles q x) (s.setReg8_config q x)
  have hreg (q' : Reg8) : t.reg8 q' = (s.setReg8 q x).reg8 q' := by
    rw [hframe]
    cases q' <;> rfl
  refine ⟨t, ht, (hreg q).trans (s.reg8_setReg8_same q x), hz, hn, hh, hcy, hlow,
    fun q' hq => (hreg q').trans (s.reg8_setReg8_other x hq), ?_⟩
  rw [hframe]
  cases q <;> rfl

/-- The register form of a shift (R304 to R312). -/
theorem exec_shift_reg (op : ShiftOp) (q : Reg8) (s : State) :
    ∃ t, exec (Instr.shift op (.reg q)) s = .next t ∧
      (t.reg8 q).toNat = (shiftResult op (s.reg8 q).toNat s.flagCy).1 ∧ t.flagZ = decide (t.reg8 q = 0) ∧
      t.flagN = false ∧ t.flagH = false ∧ t.flagCy = (shiftResult op (s.reg8 q).toNat s.flagCy).2 ∧
      t.f &&& 0x0F = s.f &&& 0x0F ∧ (∀ q', q' ≠ q → t.reg8 q' = s.reg8 q') ∧
      t = ({ s with a := t.a, b := t.b, c := t.c, d := t.d, e := t.e, h := t.h, l := t.l, f := t.f } : State).advanced
        s 2 2 := by
  obtain ⟨t, ht, hq, hz, hn, hh, hcy, hframe⟩ :=
    perform_setReg8_setFlags (handler := handleShift op (.reg q)) (length := 2) (cost := 2) (s := s) rfl
  rw [exec_shift, ← shiftApply_toNat, ← shiftApply_carry]
  exact ⟨t, ht, congrArg _ hq, hq ▸ hz, hn, hh, hcy, hframe⟩

/-- A read-modify-write at HL has the two fatals of `ModifyFaults`, that of its read and that of its write. -/
theorem modifyFaults_of_modifyThen {i : Instr} {d : Descriptor} {f : Byte → State → State}
    (hexec : exec i s = perform d handler s) (h : handler s = modifyThen .indHl g f s) : ModifyFaults i g s :=
  ⟨fun hs => hexec.trans (perform_modifyThen_unreadable h hs),
    fun _ hv hw => hexec.trans (perform_modifyThen_unwritable h hv hw)⟩

/-- The memory form of a shift, where HL is readable and the result may be written (R304 to R312). -/
theorem exec_shift_indHl (op : ShiftOp) (hv : s.peek s.hl = .ok v)
    (hw : s.writable s.hl (shiftApply op v s.flagCy).1) :
    ∃ u t, busWrite s.hl (shiftApply op v s.flagCy).1 (s.afterRead s.hl) = .ok u ∧
      exec (Instr.shift op .indHl) s = .next t ∧ t.flagZ = decide ((shiftApply op v s.flagCy).1 = 0) ∧
      t.flagN = false ∧ t.flagH = false ∧ t.flagCy = (shiftApply op v s.flagCy).2 ∧
      t.f &&& 0x0F = s.f &&& 0x0F ∧ t = ({ u with f := t.f } : State).advanced s 2 4 := by
  obtain ⟨u, hu, hbus, hshift⟩ := modifyThen_indHl_completes (g := fun v => (shiftApply op v s.flagCy).1)
    (setShiftFlags op s.flagCy) hv hw
  rw [exec_shift]
  obtain ⟨t, hnext⟩ := perform_setFlags (length := 2) (cost := 4) ((handleShift_eq op .indHl s).trans hshift)
    hbus.f hbus.cycles hbus.config
  exact ⟨u, t, hu, hnext⟩

/-- Settles O39: a shift is a read-modify-write with the result and the carry of `shiftResult`. -/
theorem rotatesAndShifts : Obligations.RotatesAndShifts := by
  intro s op
  refine ⟨fun r => exec_shift_reg op r s, ?_, fun v r hv hw hr => ?_⟩
  · have hresult (v : Byte) : BitVec.ofNat 8 (shiftResult op v.toNat s.flagCy).1 = (shiftApply op v s.flagCy).1 := by
      rw [← shiftApply_toNat, BitVec.ofNat_toNat, BitVec.setWidth_eq]
    simp only [hresult]
    exact modifyFaults_of_modifyThen (exec_shift op .indHl s) (handleShift_eq op .indHl s)
  · obtain rfl := eq_shiftApply_iff.2 hr
    rw [← shiftApply_carry]
    exact exec_shift_indHl op hv hw

/-! ### BIT -/

theorem readOperand8_of_operandByte (hv : s.operandByte o = .ok v) : readOperand8 o s = .ok (v, s.afterOperand o) := by
  cases o with
  | indHl => exact busRead_of_peek hv
  | reg _ => cases hv; rfl

theorem State.afterOperand_busStep (hv : s.operandByte o = .ok v) : s.BusStep (s.afterOperand o) :=
  readOperand8_busStep (readOperand8_of_operandByte hv)

/-- BIT's Z, the complement of the bit, as arithmetic. -/
theorem Byte.not_getLsbD_eq_decide (v : Byte) (k : Nat) : (!v.getLsbD k) = decide (v.toNat / 2 ^ k % 2 = 0) := by
  rw [Byte.getLsbD_eq_decide, ← decide_not, decide_eq_decide]
  exact Nat.mod_two_ne_one

/-- BIT over a readable operand is a flag update that leaves CY (R313). -/
theorem handleBit_eq (i : BitIndex) (hv : s.operandByte o = .ok v) :
    handleBit i o s = .ok (.none, (s.afterOperand o).setFlags (decide (v.toNat / 2 ^ bitNumber i % 2 = 0)) false true
      s.flagCy) := by
  unfold handleBit
  simp only [readOperand8_of_operandByte hv, Res.ok_bind, Res.pure_eq,
    State.setFlagsZNH_of_f (State.afterOperand_busStep hv).f, Byte.not_getLsbD_eq_decide]

/-- An unreadable (HL) is the fatal of its address (R72). -/
theorem handleBit_indHl_unreadable (i : BitIndex) (hs : ¬ s.readable s.hl) :
    handleBit i .indHl s = .error (.fault (.biosAbsent s.hl)) := by
  unfold handleBit readOperand8
  rw [busRead_eq_error.2 ⟨hs, rfl⟩]
  rfl

theorem extendedDescriptor_eq (o : Operand8) (indCost : Nat) :
    extendedDescriptor o indCost = ⟨2, if o = .indHl then indCost else 2, 0⟩ := by
  cases o <;> rfl

/-- Settles O40: a read and a flag update of the state after it. -/
theorem bitTests : Obligations.BitTests := by
  refine ⟨fun s i hs => ?_, fun s i o v hv => ?_⟩ <;> rw [exec_bit]
  · exact perform_of_error (handleBit_indHl_unreadable i hs)
  · have hbus := State.afterOperand_busStep hv
    rw [extendedDescriptor_eq]
    exact perform_setFlags (handleBit_eq i hv) hbus.f hbus.cycles hbus.config

/-! ### RES and SET -/

theorem bitNumber_lt_eight (i : BitIndex) : bitNumber i < 8 := by
  cases i <;> decide

/-- The mask of a bit has that bit alone. -/
theorem bitMask_getLsbD (i : BitIndex) (k : Nat) : (1#8 <<< bitNumber i).getLsbD k = decide (k = bitNumber i) := by
  have hi := bitNumber_lt_eight i
  rw [← BitVec.twoPow_eq, BitVec.getLsbD_twoPow, decide_eq_true hi, Bool.true_and, decide_eq_decide]
  exact eq_comm

theorem clearBit_getLsbD (i : BitIndex) (v : Byte) (k : Nat) :
    (clearBit i v).getLsbD k = if k = bitNumber i then false else v.getLsbD k := by
  unfold clearBit
  rw [BitVec.getLsbD_and, BitVec.getLsbD_not, bitMask_getLsbD]
  by_cases hk : k = bitNumber i
  · simp [hk]
  · by_cases hlt : k < 8
    · simp [hk, hlt]
    · simp [hk, hlt, BitVec.getLsbD_of_ge v k (Nat.le_of_not_lt hlt)]

theorem setBit_getLsbD (i : BitIndex) (v : Byte) (k : Nat) :
    (setBit i v).getLsbD k = if k = bitNumber i then true else v.getLsbD k := by
  unfold setBit
  rw [BitVec.getLsbD_or, bitMask_getLsbD]
  by_cases hk : k = bitNumber i <;> simp [hk]

theorem handleRes_eq (i : BitIndex) (o : Operand8) : handleRes i o = modifyThen o (clearBit i) fun _ u => u := rfl

theorem handleSet_eq (i : BitIndex) (o : Operand8) : handleSet i o = modifyThen o (setBit i) fun _ u => u := rfl

/-- A read-modify-write at HL without a register update leaves the state of its write. -/
theorem perform_modifyThen_indHl (hv : s.peek s.hl = .ok v) (hu : busWrite s.hl (g v) (s.afterRead s.hl) = .ok b) :
    perform ⟨length, cost, 0⟩ (modifyThen .indHl g fun _ u => u) s = .next (b.advanced s length cost) := by
  have hbus := (s.afterRead_busStep s.hl).trans (busWrite_busStep hu)
  refine perform_none ?_ hbus.cycles hbus.config
  rw [modifyThen_indHl hv, hu]
  rfl

/-- Settles O41: both are read-modify-writes without a register update, of `clearBit` and of `setBit`. -/
theorem resAndSet : Obligations.ResAndSet := by
  intro s i
  have hres (o : Operand8) := (exec_res i o s).trans (congrArg (perform _ · s) (handleRes_eq i o))
  have hset (o : Operand8) := (exec_set i o s).trans (congrArg (perform _ · s) (handleSet_eq i o))
  refine ⟨fun r => ?_, fun r => ?_, modifyFaults_of_modifyThen (hres .indHl) rfl,
    modifyFaults_of_modifyThen (hset .indHl) rfl, fun v r hv hw => ?_⟩
  · obtain ⟨t, ht, hr, hframe⟩ :=
      perform_setReg8 (length := 2) (cost := 2) (modifyThen_reg r (clearBit i) (fun _ u => u) s)
    exact ⟨t, (hres (.reg r)).trans ht, fun k => hr ▸ clearBit_getLsbD i _ k, hframe⟩
  · obtain ⟨t, ht, hr, hframe⟩ :=
      perform_setReg8 (length := 2) (cost := 2) (modifyThen_reg r (setBit i) (fun _ u => u) s)
    exact ⟨t, (hset (.reg r)).trans ht, fun k => hr ▸ setBit_getLsbD i _ k, hframe⟩
  · obtain ⟨u, hu⟩ := busWrite_completes ((s.afterRead_busStep s.hl).writable hw)
    refine ⟨u, hu, fun hr => ?_, fun hr => ?_⟩ <;> subst hr
    · exact (hres .indHl).trans (perform_modifyThen_indHl (g := clearBit i) hv hu)
    · exact (hset .indHl).trans (perform_modifyThen_indHl (g := setBit i) hv hu)

end Sys2Proof.Machine
end

section
/-! The jumps, calls and returns (46_control.md). Each of them either moves on, where its condition does not hold, or answers
a jump: from the state at hand (JP, JR), after a push (CALL, RST) or after a pop (RET, RETI). -/

namespace Sys2Proof.Machine

variable {s u : State} {handler : Handler} {d : Descriptor} {i : Instr} {cc : Cond} {o : ExecutionOutcome}
  {r : Res State} {e : Stop} {ret target w : Word}

/-! ### The conditions and the two ends -/

/-- The test the handlers make is the condition of R330. -/
theorem State.cond_iff : s.cond cc = true ↔ condHolds cc s := by
  have hz : s.flagZ = decide (s.f.toNat / 128 % 2 = 1) := Byte.getLsbD_eq_decide s.f 7
  have hcy : s.flagCy = decide (s.f.toNat / 16 % 2 = 1) := Byte.getLsbD_eq_decide s.f 4
  unfold State.cond condHolds
  cases cc <;> simp [hz, hcy]

theorem ite_cond_of_condHolds {α : Type} {x y : α} (h : condHolds cc s) : (if s.cond cc then x else y) = x :=
  if_pos (State.cond_iff.2 h)

theorem ite_cond_of_not_condHolds {α : Type} {x y : α} (h : ¬ condHolds cc s) : (if s.cond cc then x else y) = y :=
  if_neg (mt State.cond_iff.1 h)

/-- A handler that answers `None` with the state as it found it moves on; the extra cost is not charged. -/
theorem perform_notTaken {length base extra : Nat} (h : handler s = .ok (.none, s)) :
    perform ⟨length, base, extra⟩ handler s = .next (s.advanced s length base) := by
  rw [perform_of_ok h, applyOutcome_none rfl rfl]

/-- The two outcomes of a handler that set PC (R151). -/
def ExecutionOutcome.IsJump (o : ExecutionOutcome) : Prop := o = .jumped ∨ o = .jumpedActionTaken

/-- A handler that answers a jump and leaves the cycle count and the parameters ends in `jumped`. -/
theorem perform_jump (ho : o.IsJump) (h : handler s = .ok (o, u)) (hp : u.pc = target) (hc : u.cycles = s.cycles)
    (hg : u.config = s.config) : perform d handler s = .next (u.jumped s target (d.charge o)) := by
  rw [perform_of_ok h]
  obtain rfl | rfl := ho
  · exact congrArg _ (applyOutcome_jumped hp hc hg)
  · exact congrArg _ (applyOutcome_jumpedActionTaken hp hc hg)

/-! ### Jumps -/

/-- A handler that answers a jump and sets PC alone. -/
theorem perform_jump_setPc (ho : o.IsJump) (h : handler s = .ok (o, s.setPc target)) :
    perform d handler s = .next (s.jumped s target (d.charge o)) :=
  perform_jump (u := s.setPc target) ho h rfl rfl rfl

/-- Settles O42: each answers a jump to its target, or is not taken. -/
theorem absoluteJumps : Obligations.AbsoluteJumps := by
  intro s a cc
  rw [exec_jpA16, exec_jpHl, exec_jpCond]
  exact ⟨perform_jump_setPc (.inl rfl) rfl, perform_jump_setPc (.inl rfl) rfl,
    fun hc => perform_jump_setPc (.inr rfl) (ite_cond_of_condHolds hc),
    fun hc => perform_notTaken (ite_cond_of_not_condHolds hc)⟩

/-- The target of a relative jump is the sum of R334 modulo 2^16. -/
theorem relativeTarget_toNat (pc0 : Word) (e : Byte) :
    ((relativeTarget pc0 e).toNat : Int) = ((pc0.toNat : Int) + 2 + e.toInt) % 65536 := by
  have hnext : ((pc0 + 2).toNat : Int) = ((pc0.toNat : Int) + 2) % 65536 := by rw [BitVec.toNat_add]; rfl
  unfold relativeTarget
  rw [add_sext16_toNat, hnext, Int.emod_add_emod]

/-- Settles O43: the stated target is `relativeTarget`, to which each answers a jump. -/
theorem relativeJumps : Obligations.RelativeJumps := by
  intro s e cc target htarget
  obtain rfl : target = relativeTarget s.pc e :=
    BitVec.eq_of_toNat_eq (Int.ofNat.inj (htarget.trans (relativeTarget_toNat s.pc e).symm))
  rw [exec_jrE8, exec_jrCond]
  exact ⟨perform_jump_setPc (.inl rfl) rfl,
    fun hc => perform_jump_setPc (.inr rfl) (ite_cond_of_condHolds hc),
    fun hc => perform_notTaken (ite_cond_of_not_condHolds hc)⟩

/-! ### Jumps after a computation -/

/-- The answer of a handler that jumps with the state `r` yields: what a call or a return answers. -/
def jumpAfter (o : ExecutionOutcome) (r : Res State) : Res (ExecutionOutcome × State) := do
  let u ← r
  return (o, u)

theorem exec_jumpAfter_of_error (hexec : exec i s = perform d handler s) (h : handler s = jumpAfter o r)
    (hr : r = .error e) : exec i s = e.toOutcome :=
  hexec.trans (perform_of_error (by rw [h, hr]; rfl))

/-- The state the computation yields is the one the jump ends from. -/
theorem exec_jumpAfter_of_ok (hexec : exec i s = perform d handler s) (ho : o.IsJump) (h : handler s = jumpAfter o r)
    (hr : r = .ok u) (hc : u.cycles = s.cycles) (hg : u.config = s.config) :
    exec i s = .next (u.jumped s u.pc (d.charge o)) := by
  refine hexec.trans (perform_jump ho ?_ rfl hc hg)
  rw [h, hr]
  rfl

/-! ### Calls -/

theorem callTo_of_ok (h : push16 ret s = .ok u) : callTo ret target s = .ok (u.setPc target) := by
  unfold callTo
  rw [h]
  rfl

theorem callTo_of_error (h : push16 ret s = .error e) : callTo ret target s = .error e := by
  unfold callTo
  rw [h]
  rfl

/-- An instruction that jumps after a `callTo` is a call, at the charge of its outcome. -/
theorem callsTo_of_callTo (hexec : exec i s = perform d handler s) (ho : o.IsJump)
    (h : handler s = jumpAfter o (callTo ret target s)) : CallsTo i ret target (d.charge o) s := by
  have hhigh : s.sp - 1 = s.sp - 2 + 1 := by bv_omega
  rw [CallsTo, hhigh]
  refine ⟨wordStoreFaults_of_memWrite16 fun e he => exec_jumpAfter_of_error hexec h (callTo_of_error he), ?_⟩
  rintro ⟨hhi, hlo⟩
  obtain ⟨t, ht⟩ := memWrite16_completes (s := s.setSp (s.sp - 2)) hhi hlo
  obtain ⟨u, hu, hut⟩ := memWrite16_eq_ok.1 ht
  have hbus := memWrite16_busStep ht
  exact ⟨u, t, hu, hut, exec_jumpAfter_of_ok hexec ho h (callTo_of_ok ht) hbus.cycles hbus.config⟩

/-- Settles O44: CALL, a taken CALL cc and RST jump after a `callTo`. -/
theorem callsAndRestarts : Obligations.CallsAndRestarts := by
  intro s a cc
  refine ⟨callsTo_of_callTo (exec_callA16 a s) (.inl rfl) rfl,
    fun hc => callsTo_of_callTo (exec_callCond cc a s) (.inr rfl) (ite_cond_of_condHolds hc), fun hc => ?_,
    fun t n hmem => ?_⟩
  · rw [exec_callCond]
    exact perform_notTaken (ite_cond_of_not_condHolds hc)
  · obtain rfl : n = rstAddress t := by cases t <;> simpa [rstAddress] using hmem
    exact callsTo_of_callTo (exec_rst t s) (.inl rfl) rfl

/-! ### Returns -/

theorem returnFrom_of_ok (h : pop16 s = .ok (w, u)) : returnFrom s = .ok (u.setPc w) := by
  unfold returnFrom
  rw [h]
  rfl

theorem returnFrom_of_error (h : pop16 s = .error e) : returnFrom s = .error e := by
  unfold returnFrom
  rw [h]
  rfl

theorem returnFromInterrupt_of_ok (h : pop16 s = .ok (w, u)) :
    returnFromInterrupt s = .ok (((u.setPc w).setIme true).setEiDelay false) := by
  unfold returnFromInterrupt
  rw [h]
  rfl

theorem returnFromInterrupt_of_error (h : pop16 s = .error e) : returnFromInterrupt s = .error e := by
  unfold returnFromInterrupt
  rw [h]
  rfl

/-- An instruction that jumps after a computation which hands on the condition of a pop faults as a pop does. -/
theorem popFaults_of_jumpAfter (hexec : exec i s = perform d handler s) (h : handler s = jumpAfter o r)
    (hr : ∀ e, pop16 s = .error e → r = .error e) : PopFaults i s := by
  have hstop (e : Stop) (he : memRead16 s.sp s = .error e) : exec i s = e.toOutcome :=
    exec_jumpAfter_of_error hexec h (hr e (pop16_eq_error.2 he))
  exact ⟨fun hlo => hstop _ (memRead16_eq_error.2 (.inl ⟨hlo, rfl⟩)),
    fun hlo hhi => hstop _ (memRead16_eq_error.2 (.inr ⟨hlo, mt State.afterRead_readable.1 hhi, rfl⟩))⟩

/-- Settles O45: RET and a taken RET cc jump after a `returnFrom`, RETI after a `returnFromInterrupt`. -/
theorem returns : Obligations.Returns := by
  intro s cc
  have hcond (hc : condHolds cc s) : handleRetCond cc s = jumpAfter .jumpedActionTaken (returnFrom s) :=
    ite_cond_of_condHolds hc
  refine ⟨popFaults_of_jumpAfter (exec_ret s) rfl fun _ => returnFrom_of_error,
    popFaults_of_jumpAfter (exec_reti s) rfl fun _ => returnFromInterrupt_of_error,
    fun hc => popFaults_of_jumpAfter (exec_retCond cc s) (hcond hc) fun _ => returnFrom_of_error,
    fun hlo hhi => ?_, fun hc => ?_⟩
  · obtain ⟨w, v, hread⟩ := memRead16_completes hlo hhi
    have hbus := memRead16_busStep hread
    have hpop : pop16 s = .ok (w, v.setSp (s.sp + 2)) := pop16_eq_ok.2 ⟨v, hread, rfl⟩
    have hfrom := returnFrom_of_ok hpop
    obtain ⟨lo, hi, hpeekLo, hpeekHi, rfl, hv⟩ := memRead16_eq_ok.1 hread
    have hret := exec_jumpAfter_of_ok (exec_ret s) (.inl rfl) rfl hfrom hbus.cycles hbus.config
    have hretCond (hc : condHolds cc s) :=
      exec_jumpAfter_of_ok (exec_retCond cc s) (.inr rfl) (hcond hc) hfrom hbus.cycles hbus.config
    have hreti := exec_jumpAfter_of_ok (exec_reti s) (.inl rfl) rfl (returnFromInterrupt_of_ok hpop)
      (by simp [hbus.cycles]) (by simp [hbus.config])
    exact ⟨lo, hi, v.setSp (s.sp + 2), hpeekLo, hpeekHi, congrArg (·.setSp (s.sp + 2)) hv, hret, hretCond, hreti⟩
  · rw [exec_retCond]
    exact perform_notTaken (ite_cond_of_not_condHolds hc)

end Sys2Proof.Machine
end

section
/-! NOP, HALT, STOP, DI and EI (47_system.md, R360 to R364). Where a handler answers, it answers `None` with a control latch
written, so each of them moves on from that state; the one refusal is HALT's in the HALT-bug case (R404). -/

namespace Sys2Proof.Machine

variable {s : State}

/-! ### HALT and STOP by the parameters -/

theorem handleHalt_of_nop (h : s.config.haltModel = .nop) : handleHalt s = .ok (.none, s) := by
  unfold handleHalt
  rw [h]

theorem handleHalt_of_haltBug (h : s.config.haltModel = .stop)
    (hbug : s.config.interruptModel = .sm83 ∧ s.ime = false ∧ s.pending ≠ 0) :
    handleHalt s = .error (.refused .haltBug) := by
  unfold handleHalt
  rw [h]
  exact if_pos hbug

theorem handleHalt_of_not_haltBug (h : s.config.haltModel = .stop)
    (hbug : ¬ (s.config.interruptModel = .sm83 ∧ s.ime = false ∧ s.pending ≠ 0)) :
    handleHalt s = .ok (.none, s.setHalted true) := by
  unfold handleHalt
  rw [h]
  exact if_neg hbug

theorem handleStop_of_nop (h : s.config.haltModel = .nop) : handleStop s = .ok (.none, s) := by
  unfold handleStop
  rw [h]

theorem handleStop_of_stop (h : s.config.haltModel = .stop) : handleStop s = .ok (.none, s.setStopped true) := by
  unfold handleStop
  rw [h]

/-! ### The instructions -/

/-- Settles O47: by the parameters, each answers `None` with its latch set or with the state as it was, and HALT refuses in
the HALT-bug case. -/
theorem haltAndStop : Obligations.HaltAndStop := by
  intro s
  rw [exec_halt, exec_stop]
  refine ⟨fun hstop hbug => ?halts, fun hstop hsm83 hime hpending => ?haltBug, fun hstop => ?stops,
    fun hnop => ⟨?haltMovesOn, ?stopMovesOn⟩⟩
  case halts => exact perform_none (handleHalt_of_not_haltBug hstop hbug) rfl rfl
  case haltBug => exact perform_of_error (handleHalt_of_haltBug hstop ⟨hsm83, hime, hpending⟩)
  case stops => exact perform_none (handleStop_of_stop hstop) rfl rfl
  case haltMovesOn => exact perform_none (handleHalt_of_nop hnop) rfl rfl
  case stopMovesOn => exact perform_none (handleStop_of_nop hnop) rfl rfl

/-- Settles O46: each answers `None` in every state, with the latches it writes. -/
theorem nopDiAndEi : Obligations.NopDiAndEi := by
  intro s
  rw [exec_nop, exec_di, exec_ei]
  exact ⟨perform_none (u := s) rfl rfl rfl,
    perform_none (u := (s.setIme false).setEiDelay false) rfl rfl rfl,
    perform_none (u := s.setEiDelay true) rfl rfl rfl⟩

end Sys2Proof.Machine
end

section
/-! The launch (R451, R452): what a byte store reads at an address by the cells it lists, and the launch check through it. -/

namespace Sys2Proof.Machine

variable {m : Memory} {s : State} {k : Nat} {w : Byte}

/-! ### Reads by the listed cells -/

/-- A read answers the unlisted byte or a listed cell's. -/
theorem Memory.read_cases (m : Memory) (k : Nat) : m.read k = unlistedByte ∨ (k, m.read k) ∈ m := by
  induction m with
  | nil => exact .inl rfl
  | cons c rest ih =>
    obtain ⟨k', w⟩ := c
    rw [Memory.read_cons]
    split
    · next heq => exact .inr (heq ▸ List.mem_cons_self ..)
    · exact ih.imp_right (List.mem_cons_of_mem _)

theorem Memory.lt_of_mem {lo : Nat} (hwf : m.wfAbove lo = true) (h : (k, w) ∈ m) : lo < k := by
  induction m generalizing lo with
  | nil => exact absurd h List.not_mem_nil
  | cons c rest ih =>
    obtain ⟨k', w'⟩ := c
    obtain ⟨hlo, -, habove⟩ := Memory.wfAbove_cons.1 hwf
    obtain heq | hrest := List.mem_cons.1 h
    · exact (Prod.mk.inj heq).1 ▸ hlo
    · exact hlo.trans (ih habove hrest)

/-- The canonical form lists no address twice, so a read answers the byte of the listed cell. -/
theorem Memory.read_of_mem (hwf : m.wf = true) (h : (k, w) ∈ m) : m.read k = w := by
  induction m with
  | nil => exact absurd h List.not_mem_nil
  | cons c rest ih =>
    obtain ⟨k', w'⟩ := c
    obtain ⟨-, habove⟩ := Memory.wf_cons.1 hwf
    rw [Memory.read_cons]
    obtain heq | hrest := List.mem_cons.1 h
    · obtain ⟨rfl, rfl⟩ := Prod.mk.inj heq
      exact if_pos rfl
    · rw [if_neg (Memory.lt_of_mem habove hrest).ne]
      exact ih (Memory.wf_of_wfAbove habove) hrest

/-! ### The statements -/

/-- Settles O1: the registers are the profile's, and a launch that lists cells of the GPU only leaves every other byte 0. -/
theorem launchProfileValues : Obligations.LaunchProfileValues := by
  rintro cfg p cart bios gpu gpuMem hgpu s rfl
  have hram (k : Nat) (hk : gpuCell k = false) : gpuMem.read k = 0 :=
    (Memory.read_cases gpuMem k).resolve_right fun hlisted => by simp [hgpu k _ hlisted] at hk
  refine ⟨rfl, rfl, rfl, rfl, rfl, rfl, hram, rfl, rfl, rfl, rfl, fun _ _ => rfl, ?_, ?_, ?_⟩
  · rintro r rfl
    exact ⟨rfl, rfl, rfl, rfl, rfl, rfl, rfl, rfl, rfl, rfl⟩
  · rintro rfl
    exact ⟨rfl, rfl, rfl, rfl, rfl, rfl, rfl, rfl, rfl, rfl⟩
  · rintro rfl
    exact ⟨rfl, rfl, rfl, rfl, rfl, rfl, rfl, rfl, rfl, rfl⟩

/-- The check over the listed cells is the statement over all addresses. -/
theorem Memory.all_gpuCell_iff (hwf : m.wf = true) :
    m.all (fun cell => gpuCell cell.1 || decide (cell.2 = unlistedByte)) = true ↔
      ∀ k, gpuCell k = false → m.read k = 0 := by
  simp only [List.all_eq_true, Bool.or_eq_true, decide_eq_true_eq]
  constructor
  · intro hall k hk
    refine (Memory.read_cases m k).elim id fun hlisted => ?_
    exact (hall _ hlisted).resolve_left (by simp [hk])
  · rintro hread ⟨k, w⟩ hlisted
    cases hk : gpuCell k
    · exact .inr ((Memory.read_of_mem hwf hlisted).symm.trans (hread k hk))
    · exact .inl rfl

theorem State.launchWellFormed_iff (hwf : s.mem.wf = true) :
    s.launchWellFormed = true ↔
      s.f &&& 0x0F = 0 ∧ s.cycles = 0 ∧ s.bootLatch = false ∧ ∀ k, gpuCell k = false → s.mem.read k = 0 := by
  rw [← Memory.all_gpuCell_iff hwf]
  simp only [State.launchWellFormed, Bool.and_eq_true, decide_eq_true_eq, Bool.not_eq_true', and_assoc]

/-- Settles O3: the launch answers by the check, which is the conjunction of R452. -/
theorem launchAcceptsOnlyWellFormedStates : Obligations.LaunchAcceptsOnlyWellFormedStates := by
  intro s hwf
  rw [← State.launchWellFormed_iff hwf]
  unfold State.launch
  cases s.launchWellFormed <;> simp

end Sys2Proof.Machine
end

section
/-! How an instruction can end (R150, R400 to R404, R407): it completes and charges cycles, or it is one of two named stops.
A handler raises no condition of its own but HALT's refusal; every other one is the fatal of an access it makes. -/

namespace Sys2Proof.Machine

variable {s t : State} {α β : Type} {x y : Res α} {i : Instr}

/-! ### Computations -/

/-- The only condition the computation raises is the fatal of R72, for an address unreadable in `s`. -/
def Res.StopsAbsent (s : State) (x : Res α) : Prop :=
  ∀ e, x = .error e → ∃ a, e = .fault (.biosAbsent a) ∧ ¬ s.readable a

theorem Res.StopsAbsent.ok {a : α} : Res.StopsAbsent s (.ok a) := fun _ h => nomatch h

theorem Res.StopsAbsent.bind {g : α → Res β} (hx : Res.StopsAbsent s x)
    (hg : ∀ a, x = .ok a → Res.StopsAbsent s (g a)) : Res.StopsAbsent s (x >>= g) := by
  cases x with
  | error e => exact fun _ h => hx _ (congrArg Except.error (Except.error.inj h))
  | ok a => exact hg a rfl

theorem Res.StopsAbsent.ite {c : Prop} [Decidable c] (hx : Res.StopsAbsent s x) (hy : Res.StopsAbsent s y) :
    Res.StopsAbsent s (if c then x else y) := by
  split
  · exact hx
  · exact hy

theorem Res.StopsAbsent.of_readable (h : ∀ a, s.readable a → t.readable a) (hx : Res.StopsAbsent t x) :
    Res.StopsAbsent s x := by
  intro e he
  obtain ⟨a, ha, hr⟩ := hx e he
  exact ⟨a, ha, mt (h a) hr⟩

/-- What is unreadable after a bus access was so before it. -/
theorem Res.StopsAbsent.of_busStep (h : s.BusStep t) (hx : Res.StopsAbsent t x) : Res.StopsAbsent s x :=
  .of_readable (fun _ => h.readable) hx

/-! ### Accesses -/

theorem busRead_stopsAbsent (a : Word) (s : State) : Res.StopsAbsent s (busRead a s) := by
  intro e he
  obtain ⟨hr, rfl⟩ := busRead_eq_error.1 he
  exact ⟨a, rfl, hr⟩

/-- A write raises the fatal of the first byte of the absent BIOS (R95). -/
theorem busWrite_stopsAbsent (a : Word) (v : Byte) (s : State) : Res.StopsAbsent s (busWrite a v s) := by
  intro e he
  by_cases hw : s.writable a v
  · obtain ⟨t, ht⟩ := busWrite_completes hw
    exact nomatch ht.symm.trans he
  · obtain rfl := Except.error.inj ((busWrite_of_not_writable hw).symm.trans he)
    simp only [State.writable, Classical.not_imp, not_not] at hw
    obtain ⟨-, -, -, habsent⟩ := hw
    exact ⟨0x0000, rfl, fun hr => hr ⟨by decide, habsent⟩⟩

theorem memRead16_stopsAbsent (a : Word) (s : State) : Res.StopsAbsent s (memRead16 a s) :=
  .bind (busRead_stopsAbsent a s) fun _ hlo =>
    .bind (.of_busStep (busRead_busStep hlo) (busRead_stopsAbsent _ _)) fun _ _ => .ok

theorem memWrite16_stopsAbsent (a w : Word) (s : State) : Res.StopsAbsent s (memWrite16 a w s) :=
  .bind (busWrite_stopsAbsent _ _ _) fun _ hhi => .of_busStep (busWrite_busStep hhi) (busWrite_stopsAbsent _ _ _)

theorem push16_stopsAbsent (w : Word) (s : State) : Res.StopsAbsent s (push16 w s) :=
  memWrite16_stopsAbsent (s.sp - 2) w (s.setSp (s.sp - 2))

theorem pop16_stopsAbsent (s : State) : Res.StopsAbsent s (pop16 s) :=
  .bind (memRead16_stopsAbsent s.sp s) fun _ _ => .ok

theorem callTo_stopsAbsent (w target : Word) (s : State) : Res.StopsAbsent s (callTo w target s) :=
  .bind (push16_stopsAbsent w s) fun _ _ => .ok

theorem returnFrom_stopsAbsent (s : State) : Res.StopsAbsent s (returnFrom s) :=
  .bind (pop16_stopsAbsent s) fun _ _ => .ok

theorem returnFromInterrupt_stopsAbsent (s : State) : Res.StopsAbsent s (returnFromInterrupt s) :=
  .bind (pop16_stopsAbsent s) fun _ _ => .ok

theorem readOperand8_stopsAbsent (o : Operand8) (s : State) : Res.StopsAbsent s (readOperand8 o s) := by
  cases o
  case reg r => exact .ok
  case indHl => exact busRead_stopsAbsent s.hl s

theorem writeOperand8_stopsAbsent (o : Operand8) (v : Byte) (s : State) : Res.StopsAbsent s (writeOperand8 o v s) := by
  cases o
  case reg r => exact .ok
  case indHl => exact busWrite_stopsAbsent s.hl v s

theorem readSource_stopsAbsent (src : AluSource) (s : State) : Res.StopsAbsent s (readSource src s) := by
  cases src
  case indHl => exact busRead_stopsAbsent s.hl s
  all_goals exact .ok

/-! ### Handlers -/

/-- How an instruction at `s` ends: it completes with a count that is not 0, or it is one of the two named stops, the bus
fatal of an unreadable address (R401) and HALT in the HALT-bug case (R404). -/
inductive EndsByName (i : Instr) (s : State) : StepOutcome → Prop where
  | completes {t : State} (hcycles : 0 < t.cycles) : EndsByName i s (.next t)
  | biosAbsent {a : Word} (h : ¬ s.readable a) : EndsByName i s (.fault (.biosAbsent a))
  | haltBug (hi : i = .halt) (hstop : s.config.haltModel = .stop)
      (hbug : s.config.interruptModel = .sm83 ∧ s.ime = false ∧ s.pending ≠ 0) : EndsByName i s (.refused .haltBug)

/-- Every end of the instruction is one of these. -/
def AlwaysEndsByName (i : Instr) : Prop := ∀ s, EndsByName i s (exec i s)

theorem perMCycle_pos (cfg : Config) : 0 < perMCycle cfg := by
  unfold perMCycle
  split <;> decide

theorem Descriptor.base_le_charge (d : Descriptor) (o : ExecutionOutcome) : d.base ≤ d.charge o := by
  unfold Descriptor.charge
  split <;> omega

theorem aluDescriptor_base_pos (src : AluSource) : 0 < (aluDescriptor src).base := by
  cases src <;> exact Nat.succ_pos _

theorem rmwDescriptor_base_pos (o : Operand8) : 0 < (rmwDescriptor o).base := by
  cases o <;> exact Nat.succ_pos _

theorem extendedDescriptor_base_pos (o : Operand8) {indCost : Nat} (h : 0 < indCost) :
    0 < (extendedDescriptor o indCost).base := by
  cases o
  case reg r => exact Nat.succ_pos _
  case indHl => exact h

theorem perform_completes {d : Descriptor} {handler : Handler} {o : ExecutionOutcome} (hd : 0 < d.base)
    (h : handler s = .ok (o, t)) : EndsByName i s (perform d handler s) := by
  rw [perform_of_ok h, applyOutcome_frame]
  exact .completes (Nat.add_pos_right _ (Nat.mul_pos (perMCycle_pos t.config) (hd.trans_le (d.base_le_charge o))))

/-- A handler that raises the conditions of its accesses only, at a base cost that is not 0. -/
theorem AlwaysEndsByName.of_accesses {d : Descriptor} {handler : State → Handler}
    (hexec : ∀ s, exec i s = perform d (handler s) s) (hstop : ∀ s, Res.StopsAbsent s (handler s s))
    (hd : 0 < d.base := by decide) : AlwaysEndsByName i := by
  intro s
  rw [hexec]
  cases h : handler s s with
  | error e =>
    obtain ⟨a, rfl, ha⟩ := hstop s e h
    exact perform_of_error (d := d) h ▸ .biosAbsent ha
  | ok p => exact perform_completes hd h

/-- A handler that makes no access answers in every state. -/
theorem AlwaysEndsByName.of_ok {d : Descriptor} {handler : State → Handler}
    {answer : State → ExecutionOutcome × State} (hexec : ∀ s, exec i s = perform d (handler s) s)
    (hok : ∀ s, handler s s = .ok (answer s)) (hd : 0 < d.base := by decide) : AlwaysEndsByName i :=
  .of_accesses hexec (fun s => hok s ▸ .ok) hd

/-- A read, a write of the same operand, and an answer. -/
theorem modify_stopsAbsent (o : Operand8) (g : Byte → State → Byte) (f : Byte → State → State → State)
    (s : State) :
    Res.StopsAbsent s (do
      let (v, r) ← readOperand8 o s
      let q ← writeOperand8 o (g v r) r
      return ((.none, f v r q) : ExecutionOutcome × State)) :=
  .bind (readOperand8_stopsAbsent o s) fun _ hr =>
    .bind (.of_busStep (readOperand8_busStep hr) (writeOperand8_stopsAbsent _ _ _)) fun _ _ => .ok

theorem handleLoadA_stopsAbsent (a : Word) (s : State) : Res.StopsAbsent s (handleLoadA a s) :=
  .bind (busRead_stopsAbsent a s) fun _ _ => .ok

theorem handleStoreA_stopsAbsent (a : Word) (s : State) : Res.StopsAbsent s (handleStoreA a s) :=
  .bind (busWrite_stopsAbsent a s.a s) fun _ _ => .ok

theorem handleLoadAMoveHl_stopsAbsent (delta : Word) (s : State) : Res.StopsAbsent s (handleLoadAMoveHl delta s) :=
  .bind (busRead_stopsAbsent s.hl s) fun _ _ => .ok

theorem handleStoreAMoveHl_stopsAbsent (delta : Word) (s : State) : Res.StopsAbsent s (handleStoreAMoveHl delta s) :=
  .bind (busWrite_stopsAbsent s.hl s.a s) fun _ _ => .ok

theorem endsByName_stop : AlwaysEndsByName .stop := by
  refine .of_accesses exec_stop fun s => ?_
  cases hmodel : s.config.haltModel
  · exact handleStop_of_stop hmodel ▸ .ok
  · exact handleStop_of_nop hmodel ▸ .ok

theorem endsByName_halt : AlwaysEndsByName .halt := by
  intro s
  rw [exec_halt]
  cases hmodel : s.config.haltModel
  · by_cases hbug : s.config.interruptModel = .sm83 ∧ s.ime = false ∧ s.pending ≠ 0
    · exact perform_of_error (handleHalt_of_haltBug hmodel hbug) ▸ .haltBug rfl hmodel hbug
    · exact perform_completes (by decide) (handleHalt_of_not_haltBug hmodel hbug)
  · exact perform_completes (by decide) (handleHalt_of_nop hmodel)

/-! ### Every instruction -/

theorem exec_endsByName (i : Instr) : AlwaysEndsByName i := by
  apply Instr.byFamily (P := AlwaysEndsByName)
  case ldRegReg => exact fun dst src => .of_ok (exec_ldRegReg dst src) fun _ => rfl
  case ldRegN8 => exact fun dst n => .of_ok (exec_ldRegN8 dst n) fun _ => rfl
  case ldRegIndHl =>
    exact fun dst => .of_accesses (exec_ldRegIndHl dst) fun s => .bind (busRead_stopsAbsent s.hl s) fun _ _ => .ok
  case ldIndHlReg =>
    exact fun src => .of_accesses (exec_ldIndHlReg src) fun s =>
      .bind (busWrite_stopsAbsent s.hl (s.reg8 src) s) fun _ _ => .ok
  case ldPairN16 => exact fun p n => .of_ok (exec_ldPairN16 p n) fun _ => rfl
  case push =>
    exact fun q => .of_accesses (exec_push q) fun s => .bind (push16_stopsAbsent (s.stackPair q) s) fun _ _ => .ok
  case pop => exact fun q => .of_accesses (exec_pop q) fun s => .bind (pop16_stopsAbsent s) fun _ _ => .ok
  case alu =>
    exact fun op src => .of_accesses (exec_alu op src)
      (fun s => .bind (readSource_stopsAbsent src s) fun _ _ => .ok) (aluDescriptor_base_pos src)
  case inc8 =>
    exact fun o => .of_accesses (exec_inc8 o) (modify_stopsAbsent o (fun v _ => v + 1)
      (fun v _ q => q.setFlagsZNH (decide (v + 1 = 0)) false (incHalf v))) (rmwDescriptor_base_pos o)
  case dec8 =>
    exact fun o => .of_accesses (exec_dec8 o) (modify_stopsAbsent o (fun v _ => v - 1)
      (fun v _ q => q.setFlagsZNH (decide (v - 1 = 0)) true (decHalf v))) (rmwDescriptor_base_pos o)
  case addHl => exact fun p => .of_ok (exec_addHl p) fun _ => rfl
  case inc16 => exact fun p => .of_ok (exec_inc16 p) fun _ => rfl
  case dec16 => exact fun p => .of_ok (exec_dec16 p) fun _ => rfl
  case shift =>
    exact fun op o => .of_accesses (exec_shift op o)
      (modify_stopsAbsent o (fun v r => (shiftApply op v r.flagCy).1) fun v r q =>
        q.setFlags (decide ((shiftApply op v r.flagCy).1 = 0)) false false (shiftApply op v r.flagCy).2)
      (extendedDescriptor_base_pos o (by decide))
  case bit =>
    exact fun b o => .of_accesses (exec_bit b o)
      (fun s => .bind (readOperand8_stopsAbsent o s) fun _ _ => .ok) (extendedDescriptor_base_pos o (by decide))
  case res =>
    exact fun b o => .of_accesses (exec_res b o)
      (modify_stopsAbsent o (fun v _ => clearBit b v) fun _ _ q => q) (extendedDescriptor_base_pos o (by decide))
  case set =>
    exact fun b o => .of_accesses (exec_set b o)
      (modify_stopsAbsent o (fun v _ => setBit b v) fun _ _ q => q) (extendedDescriptor_base_pos o (by decide))
  case jpCond => exact fun cc a => .of_accesses (exec_jpCond cc a) fun _ => .ite .ok .ok
  case jrCond => exact fun cc e => .of_accesses (exec_jrCond cc e) fun _ => .ite .ok .ok
  case callCond =>
    exact fun cc a => .of_accesses (exec_callCond cc a) fun s =>
      .ite (.bind (callTo_stopsAbsent (s.pc + 3) a s) fun _ _ => .ok) .ok
  case retCond =>
    exact fun cc => .of_accesses (exec_retCond cc) fun s =>
      .ite (.bind (returnFrom_stopsAbsent s) fun _ _ => .ok) .ok
  case rst =>
    exact fun x => .of_accesses (exec_rst x) fun s =>
      .bind (callTo_stopsAbsent (s.pc + 1) (rstAddress x) s) fun _ _ => .ok
  case nop => exact .of_ok exec_nop fun _ => rfl
  case ldIndBcA => exact .of_accesses exec_ldIndBcA fun s => handleStoreA_stopsAbsent s.bc s
  case rlca => exact .of_ok exec_rlca fun _ => rfl
  case ldIndA16Sp =>
    exact fun n => .of_accesses (exec_ldIndA16Sp n) fun s => .bind (memWrite16_stopsAbsent n s.sp s) fun _ _ => .ok
  case ldAIndBc => exact .of_accesses exec_ldAIndBc fun s => handleLoadA_stopsAbsent s.bc s
  case rrca => exact .of_ok exec_rrca fun _ => rfl
  case stop => exact endsByName_stop
  case ldIndDeA => exact .of_accesses exec_ldIndDeA fun s => handleStoreA_stopsAbsent s.de s
  case rla => exact .of_ok exec_rla fun _ => rfl
  case jrE8 => exact fun n => .of_ok (exec_jrE8 n) fun _ => rfl
  case ldAIndDe => exact .of_accesses exec_ldAIndDe fun s => handleLoadA_stopsAbsent s.de s
  case rra => exact .of_ok exec_rra fun _ => rfl
  case ldIndHlIncA => exact .of_accesses exec_ldIndHlIncA (handleStoreAMoveHl_stopsAbsent 1)
  case daa => exact .of_ok exec_daa fun _ => rfl
  case ldAIndHlInc => exact .of_accesses exec_ldAIndHlInc (handleLoadAMoveHl_stopsAbsent 1)
  case cpl => exact .of_ok exec_cpl fun _ => rfl
  case ldIndHlDecA => exact .of_accesses exec_ldIndHlDecA (handleStoreAMoveHl_stopsAbsent (-1))
  case ldIndHlN8 =>
    exact fun n => .of_accesses (exec_ldIndHlN8 n) fun s => .bind (busWrite_stopsAbsent s.hl n s) fun _ _ => .ok
  case scf => exact .of_ok exec_scf fun _ => rfl
  case ldAIndHlDec => exact .of_accesses exec_ldAIndHlDec (handleLoadAMoveHl_stopsAbsent (-1))
  case ccf => exact .of_ok exec_ccf fun _ => rfl
  case halt => exact endsByName_halt
  case jpA16 => exact fun n => .of_ok (exec_jpA16 n) fun _ => rfl
  case ret => exact .of_accesses exec_ret fun s => .bind (returnFrom_stopsAbsent s) fun _ _ => .ok
  case callA16 =>
    exact fun n => .of_accesses (exec_callA16 n) fun s =>
      .bind (callTo_stopsAbsent (s.pc + 3) n s) fun _ _ => .ok
  case reti => exact .of_accesses exec_reti fun s => .bind (returnFromInterrupt_stopsAbsent s) fun _ _ => .ok
  case ldhIndA8A => exact fun n => .of_accesses (exec_ldhIndA8A n) (handleStoreA_stopsAbsent (highPage n))
  case ldIndCA => exact .of_accesses exec_ldIndCA fun s => handleStoreA_stopsAbsent (highPage s.c) s
  case addSpE8 => exact fun n => .of_ok (exec_addSpE8 n) fun _ => rfl
  case jpHl => exact .of_ok exec_jpHl fun _ => rfl
  case ldIndA16A => exact fun n => .of_accesses (exec_ldIndA16A n) (handleStoreA_stopsAbsent n)
  case ldhAIndA8 => exact fun n => .of_accesses (exec_ldhAIndA8 n) (handleLoadA_stopsAbsent (highPage n))
  case ldAIndC => exact .of_accesses exec_ldAIndC fun s => handleLoadA_stopsAbsent (highPage s.c) s
  case di => exact .of_ok exec_di fun _ => rfl
  case ldHlSpE8 => exact fun n => .of_ok (exec_ldHlSpE8 n) fun _ => rfl
  case ldSpHl => exact .of_ok exec_ldSpHl fun _ => rfl
  case ldAIndA16 => exact fun n => .of_accesses (exec_ldAIndA16 n) (handleLoadA_stopsAbsent n)
  case ei => exact .of_ok exec_ei fun _ => rfl

theorem outcomeAddCycles_eq_next {n : Nat} {o : StepOutcome} :
    outcomeAddCycles n o = .next t ↔ ∃ w, o = .next w ∧ t = w.addCycles n := by
  cases o <;> simp [outcomeAddCycles, eq_comm]

/-- An instruction that completes charges cycles: it does from a count of 0, and no instruction reads the count. -/
theorem exec_charges (h : exec i s = .next t) : s.cycles < t.cycles := by
  have hshift : exec i s = outcomeAddCycles s.cycles (exec i { s with cycles := 0 }) := by
    rw [← exec_ignoresCycles i { s with cycles := 0 } s.cycles, State.addCycles, Nat.zero_add]
  obtain ⟨w, hw, rfl⟩ := outcomeAddCycles_eq_next.1 (hshift.symm.trans h)
  have hends := exec_endsByName i { s with cycles := 0 }
  rw [hw] at hends
  obtain ⟨hpos⟩ := hends
  exact Nat.lt_add_of_pos_left hpos

/-- The faults of an instruction are the bus fatals of unreadable addresses. -/
theorem exec_eq_fault {x : Fault} (h : exec i s = .fault x) : ∃ a, x = .biosAbsent a ∧ ¬ s.readable a := by
  have hends := exec_endsByName i s
  rw [h] at hends
  obtain _ | ⟨ha⟩ := hends
  exact ⟨_, rfl, ha⟩

/-- The one refusal of an instruction is HALT's in the HALT-bug case. -/
theorem exec_eq_refused {x : Refusal} (h : exec i s = .refused x) : (i = .halt ∧ x = .haltBug) ∧
    s.config.haltModel = .stop ∧ s.config.interruptModel = .sm83 ∧ s.ime = false ∧ s.pending ≠ 0 := by
  have hends := exec_endsByName i s
  rw [h] at hends
  obtain _ | _ | ⟨hi, hstop, hbug⟩ := hends
  exact ⟨⟨hi, rfl⟩, hstop, hbug⟩

/-- Settles O53: of the two named stops, the bus fatal needs an unreadable address, and the refusal is HALT's. -/
theorem everyInstructionCompletesOrStopsByName : Obligations.EveryInstructionCompletesOrStopsByName := by
  refine ⟨fun i s hreadable hbug => ?completes, fun i s x h => ?faults, fun i s x h => (exec_eq_refused h).1⟩
  case completes =>
    cases hexec : exec i s with
    | next t => exact ⟨t, rfl⟩
    | fault x =>
      obtain ⟨a, -, ha⟩ := exec_eq_fault hexec
      exact absurd (by rintro ⟨-, hlatch, hbios⟩; simp [hlatch, hbios] at hreadable) ha
    | refused x =>
      obtain ⟨⟨hi, -⟩, hcase⟩ := exec_eq_refused hexec
      exact absurd ⟨hi, hcase⟩ hbug
  case faults =>
    obtain ⟨a, rfl, ha⟩ := exec_eq_fault h
    exact ⟨a, rfl, not_not.1 ha⟩

end Sys2Proof.Machine
end

section
/-! The interrupt check, the entry and the halted test (60_exceptions.md, R410 to R421): one equation for each way the check
goes, and what a step is after each. -/

namespace Sys2Proof.Machine

variable {s t : State} {i : Nat}

/-! ### The check -/

theorem interruptCheck_of_none (h : s.config.interruptModel = .none) : interruptCheck s = .ok (false, s) := by
  unfold interruptCheck
  rw [h]

/-- The check does nothing without an enabled request, under either model (R411, R413). -/
theorem interruptCheck_of_not_pending (h : s.pending = 0) : interruptCheck s = .ok (false, s) := by
  unfold interruptCheck
  cases s.config.interruptModel
  · rfl
  · exact if_pos h

/-- With IME = 0 an enabled request wakes and is not taken (R411). -/
theorem interruptCheck_of_wake (hmodel : s.config.interruptModel = .sm83) (hime : s.ime = false) (hp : s.pending ≠ 0) :
    interruptCheck s = .ok (false, s.setHalted false) := by
  unfold interruptCheck
  rw [hmodel]
  exact (if_neg hp).trans (if_neg (by simp [hime]))

/-- With IME = 1 the lowest enabled request is taken (R411). -/
theorem interruptCheck_of_entry (hmodel : s.config.interruptModel = .sm83) (hime : s.ime = true) (hp : s.pending ≠ 0) :
    interruptCheck s = (do let t ← takeInterrupt (lowestPending s.pending) (s.setHalted false); return (true, t)) := by
  unfold interruptCheck
  rw [hmodel]
  exact (if_neg hp).trans (if_pos hime)

/-- Waking an engine that is not halted changes nothing. -/
theorem State.setHalted_self (h : s.halted = false) : s.setHalted false = s := by
  rw [← h]
  rfl

theorem interruptCheck_of_not_halted (hmodel : s.config.interruptModel = .sm83) (hime : s.ime = false)
    (hhalted : s.halted = false) : interruptCheck s = .ok (false, s) := by
  by_cases hp : s.pending = 0
  · exact interruptCheck_of_not_pending hp
  · rw [interruptCheck_of_wake hmodel hime hp, State.setHalted_self hhalted]

/-! ### The step after the check -/

/-- The step of a halted or stopped engine for which the check does nothing ends in the same state (R420). -/
theorem step_of_halted (hcheck : interruptCheck s = .ok (false, s)) (h : s.halted = true ∨ s.stopped = true) :
    step s = .next s := by
  unfold step stepOnce
  rw [hcheck]
  simp [h]

/-- A step that runs an instruction and completes charges cycles (R44). -/
theorem runInstruction_charges (h : runInstruction s = .next t) : s.cycles < t.cycles := by
  obtain ⟨i, u, w, hfetch, hexec, rfl⟩ := runInstruction_eq_next.1 h
  calc s.cycles = u.cycles := by rw [fetchInstr_frame hfetch]
    _ < w.cycles := exec_charges hexec
    _ = (promoteEi s.eiDelay w).cycles := by rw [promoteEi_frame]

/-- Settles O48: the equations of the check that take no interrupt. -/
theorem noInterruptUnlessEnabledAndPending : Obligations.NoInterruptUnlessEnabledAndPending := by
  refine ⟨fun s hmodel => ⟨interruptCheck_of_none hmodel, fun t h => ?latches⟩, fun s hmodel =>
    ⟨interruptCheck_of_not_pending, interruptCheck_of_not_halted hmodel, fun hno hhalted hstopped => ?runs⟩⟩
  case latches =>
    have hfixed (hended : s.halted = true ∨ s.stopped = true) : t = s :=
      Host.Outcome.next.inj (h.symm.trans (step_of_halted (interruptCheck_of_none hmodel) hended))
    exact ⟨fun hs => hfixed (.inl hs) ▸ hs, fun hs => hfixed (.inr hs) ▸ hs⟩
  case runs =>
    have hcheck : interruptCheck s = .ok (false, s) := by
      obtain hp | hime := hno
      · exact interruptCheck_of_not_pending hp
      · exact interruptCheck_of_not_halted hmodel hime hhalted
    exact step_of_runs ⟨hcheck, hhalted, hstopped⟩

/-- Settles O50: with IME = 0 the check wakes the engine or does nothing. -/
theorem haltedEngineWakesOrChangesNothing : Obligations.HaltedEngineWakesOrChangesNothing := by
  refine ⟨fun s => step_of_halted, fun s hmodel hime hstopped hhalted =>
    ⟨fun hp => ?wakes, fun hp => step_of_halted (interruptCheck_of_not_pending hp) (.inl hhalted)⟩⟩
  case wakes =>
    unfold step stepOnce
    rw [interruptCheck_of_wake hmodel hime hp]
    simp [hstopped, State.setHalted]

/-- Settles O51: a step that is not fixed by the halted test runs an instruction, which charges cycles. -/
theorem stepIsFixedExactlyWhenHalted : Obligations.StepIsFixedExactlyWhenHalted := by
  intro s hmodel
  have hcharges (hhalted : s.halted = false) (hstopped : s.stopped = false) (t : State) (h : step s = .next t) :
      s.cycles < t.cycles :=
    runInstruction_charges ((step_of_runs ⟨interruptCheck_of_none hmodel, hhalted, hstopped⟩).symm.trans h)
  refine ⟨⟨fun h => ?_, step_of_halted (interruptCheck_of_none hmodel)⟩, hcharges⟩
  by_contra hruns
  obtain ⟨hhalted, hstopped⟩ : s.halted = false ∧ s.stopped = false := by simpa using hruns
  exact absurd (hcharges hhalted hstopped s h) (Nat.lt_irrefl _)

/-! ### The entry -/

/-- Bits 0 to 4 of the enabled requests are those of IE and IF. -/
theorem State.pending_getLsbD (s : State) (hi : i < 5) : s.pending.getLsbD i = (s.ieReg &&& s.ifReg).getLsbD i := by
  have hmask : ∀ j, j < 5 → (0x1F : Byte).getLsbD j = true := by decide
  rw [State.pending, BitVec.getLsbD_and, hmask i hi, Bool.and_true]

/-- The lowest enabled request is the one with no other below it (R411). -/
theorem lowestPending_eq {p : Byte} (hi : i < 5) (hset : p.getLsbD i = true) (hlow : ∀ j, j < i → p.getLsbD j = false) :
    lowestPending p = i := by
  unfold lowestPending
  interval_cases i <;> simp (disch := decide) only [hset, hlow, if_true, Bool.false_eq_true, if_false]

/-- A step that takes the entry ends as the entry does. -/
theorem step_of_entry (hmodel : s.config.interruptModel = .sm83) (hime : s.ime = true) (hp : s.pending ≠ 0)
    (hi : lowestPending s.pending = i) : step s = outcomeOf (takeInterrupt i (s.setHalted false)) := by
  unfold step stepOnce
  rw [interruptCheck_of_entry hmodel hime hp, hi]
  cases takeInterrupt i (s.setHalted false) <;> rfl

theorem takeInterrupt_of_error {e : Stop} (h : push16 s.pc (s.acknowledged i) = .error e) :
    takeInterrupt i s = .error e := by
  show (push16 s.pc (s.acknowledged i) >>= _) = _
  rw [h]
  rfl

/-- The state an entry pushes from, and the push as a word write (R236, R412). -/
theorem push16_acknowledged (s : State) (i : Nat) :
    push16 s.pc (s.acknowledged i) = memWrite16 (s.sp - 2) s.pc ((s.acknowledged i).setSp (s.sp - 2)) := rfl

/-- Settles O49: the entry of the lowest request is a word write from the acknowledged state, then PC and the charge. -/
theorem interruptEntry : Obligations.InterruptEntry := by
  intro s r i hmodel hime hi hset hlow hr
  have hpending : s.pending.getLsbD i = true := (s.pending_getLsbD hi).trans hset
  have hp : s.pending ≠ 0 := fun h0 => by simp [h0] at hpending
  have hlowest : lowestPending s.pending = i :=
    lowestPending_eq hi hpending fun j hj => (s.pending_getLsbD (hj.trans hi)).trans (hlow j hj)
  have hpush : push16 (s.setHalted false).pc ((s.setHalted false).acknowledged i) = memWrite16 (s.sp - 2) s.pc r := by
    rw [push16_acknowledged, State.setHalted_sp, State.setHalted_pc, hr]
    simp only [State.setHalted, State.acknowledged, State.setIf, State.setIme, State.setEiDelay, State.setSp]
  have hhigh : s.sp - 1 = s.sp - 2 + 1 := by bv_omega
  rw [hhigh, step_of_entry hmodel hime hp hlowest]
  constructor
  case left =>
    exact wordStoreFaults_of_memWrite16 fun e he => congrArg outcomeOf (takeInterrupt_of_error (hpush.trans he))
  case right =>
    rintro ⟨hhi, hlo⟩
    have hcycles : r.cycles = s.cycles := by rw [hr]
    have hconfig : r.config = s.config := by rw [hr]
    have hwritable (a : Word) (v : Byte) (hw : s.writable a v) : r.writable a v := by rw [hr]; exact hw
    obtain ⟨t, ht⟩ := memWrite16_completes (hwritable _ _ hhi) (hwritable _ _ hlo)
    obtain ⟨u, hu, hut⟩ := memWrite16_eq_ok.1 ht
    have hbus := memWrite16_busStep ht
    refine ⟨u, t, hu, hut, ?_⟩
    rw [takeInterrupt_eq_ok.2 ⟨t, hpush.trans ht, rfl⟩]
    simp only [outcomeOf, State.jumped, State.addCycles, State.setPc, hbus.cycles, hbus.config, hcycles, hconfig]

end Sys2Proof.Machine
end

section
/-! How a fetch can stop a step (R138, R401, R403, R405): the fatal of the first byte that cannot be read, in the order
opcode byte, extended byte, immediate; or the fatal of a tag without a descriptor, which nothing but a fetch raises. -/

namespace Sys2Proof.Machine

variable {s t : State} {e : Stop} {op : Opcode} {b : Byte}

/-! ### Stops of a fetch -/

theorem step_of_fetch_error (hruns : s.runs) (h : fetchInstr s = .error e) : step s = e.toOutcome := by
  rw [step_of_runs hruns]
  unfold runInstruction
  rw [h]

theorem fetchInstr_of_fetchOpcode_error (h : fetchOpcode s.pc s = .error e) : fetchInstr s = .error e := by
  unfold fetchInstr
  simp only [h, Res.error_bind]

theorem fetchInstr_unpopulated (hop : fetchOpcode s.pc s = .ok (op, t)) (hp : populated s.config op = false) :
    fetchInstr s = .error (.fault (.lookupMiss op)) := by
  have hcfg : t.config = s.config := by rw [fetchOpcode_busStep hop]
  unfold fetchInstr
  simp only [hop, Res.ok_bind, hcfg, hp, Bool.false_eq_true, if_false]

theorem fetchOpcode_unreadable {a : Word} (h : ¬ s.readable a) : fetchOpcode a s = .error (.fault (.biosAbsent a)) := by
  unfold fetchOpcode
  rw [busRead_eq_error.2 ⟨h, rfl⟩]
  rfl

theorem fetchOpcode_extended_unreadable {a : Word} (hmarker : busRead a s = .ok (extensionMarker, t))
    (h : ¬ t.readable (a + 1)) : fetchOpcode a s = .error (.fault (.biosAbsent (a + 1))) := by
  unfold fetchOpcode
  simp only [hmarker, Res.ok_bind, if_true, busRead_eq_error.2 ⟨h, rfl⟩, Res.error_bind]

/-- The immediate byte `k` is the first one that cannot be read. -/
theorem fetchOperand_unreadable {entry : Entry} {a : Word} {k : Nat} (he : plainEntry b = some entry) (hk : 1 ≤ k)
    (hk' : k ≤ immediateBytes b) (hbefore : ∀ j, 1 ≤ j → j < k → s.readable (a + BitVec.ofNat 16 j))
    (h : ¬ s.readable (a + BitVec.ofNat 16 k)) :
    fetchOperand entry a s = .error (.fault (.biosAbsent (a + BitVec.ofNat 16 k))) := by
  unfold immediateBytes at hk'
  rw [he] at hk'
  cases entry with
  | op i => exact absurd (hk.trans hk') (Nat.not_succ_le_zero 0)
  | ignoredByte i => exact absurd (hk.trans hk') (Nat.not_succ_le_zero 0)
  | imm8 f =>
    obtain rfl : k = 1 := Nat.le_antisymm hk' hk
    have hread : busRead (a + 1) s = .error (.fault (.biosAbsent (a + 1))) := busRead_eq_error.2 ⟨h, rfl⟩
    unfold fetchOperand
    simp only [hread, Res.error_bind]
    rfl
  | imm16 f =>
    have hread : memRead16 (a + 1) s = .error (.fault (.biosAbsent (a + BitVec.ofNat 16 k))) := by
      obtain rfl | rfl : k = 1 ∨ k = 2 := by change k ≤ 2 at hk'; omega
      · exact memRead16_eq_error.2 (.inl ⟨h, rfl⟩)
      · have hsecond : a + 1 + 1 = a + BitVec.ofNat 16 2 := BitVec.add_assoc a 1 1
        rw [← hsecond] at h ⊢
        exact memRead16_eq_error.2 (.inr ⟨hbefore 1 (by decide) (by decide), mt State.afterRead_readable.1 h, rfl⟩)
    unfold fetchOperand
    simp only [hread, Res.error_bind]

/-! ### No other stop -/

theorem fetchOpcode_stopsAbsent (a : Word) (s : State) : Res.StopsAbsent s (fetchOpcode a s) :=
  .bind (busRead_stopsAbsent a s) fun _ h =>
    .ite (.of_busStep (busRead_busStep h) (.bind (busRead_stopsAbsent _ _) fun _ _ => .ok)) .ok

theorem fetchOperand_stopsAbsent (entry : Entry) (a : Word) (s : State) :
    Res.StopsAbsent s (fetchOperand entry a s) := by
  cases entry with
  | op i => exact .ok
  | ignoredByte i => exact .ok
  | imm8 f => exact .bind (busRead_stopsAbsent (a + 1) s) fun _ _ => .ok
  | imm16 f => exact .bind (memRead16_stopsAbsent (a + 1) s) fun _ _ => .ok

/-- The marker is no tag (R137). -/
theorem fetchOpcode_ne_marker {a : Word} (h : fetchOpcode a s = .ok (op, t)) : op ≠ .plain extensionMarker := by
  obtain ⟨⟨b0, u⟩, -, h⟩ := Res.bind_eq_ok.1 h
  dsimp only at h
  split at h
  · obtain ⟨p, -, h⟩ := Res.bind_eq_ok.1 h
    cases h
    exact Opcode.noConfusion
  · next hb =>
    cases h
    exact fun heq => hb (Opcode.plain.inj heq)

theorem populated_plain {cfg : Config} (h : populated cfg (.plain b) = true) : ∃ entry, plainEntry b = some entry := by
  unfold populated at h
  rw [Bool.and_eq_true] at h
  exact Option.isSome_iff_exists.1 h.1

/-- A fetch ends in the fatal of an unreadable byte, or in that of a tag without a descriptor. -/
theorem fetchInstr_eq_error (h : fetchInstr s = .error e) : (∃ a, e = .fault (.biosAbsent a)) ∨
    ∃ op, e = .fault (.lookupMiss op) ∧ populated s.config op = false ∧ op ≠ .plain extensionMarker := by
  cases hop : fetchOpcode s.pc s with
  | error e' =>
    obtain rfl := Except.error.inj ((fetchInstr_of_fetchOpcode_error hop).symm.trans h)
    obtain ⟨a, ha, -⟩ := fetchOpcode_stopsAbsent _ _ _ hop
    exact .inl ⟨a, ha⟩
  | ok p =>
    obtain ⟨op, t⟩ := p
    cases hp : populated s.config op
    · obtain rfl := Except.error.inj ((fetchInstr_unpopulated hop hp).symm.trans h)
      exact .inr ⟨op, rfl, hp, fetchOpcode_ne_marker hop⟩
    · cases op with
      | extended b => exact nomatch (fetchInstr_extended hop hp).symm.trans h
      | plain b =>
        obtain ⟨entry, he⟩ := populated_plain hp
        rw [fetchInstr_plain hop he hp] at h
        obtain ⟨a, ha, -⟩ := fetchOperand_stopsAbsent _ _ _ _ h
        exact .inl ⟨a, ha⟩

theorem runInstruction_eq_lookupMiss (h : runInstruction s = .fault (.lookupMiss op)) :
    populated s.config op = false ∧ op ≠ .plain extensionMarker := by
  unfold runInstruction at h
  cases hf : fetchInstr s with
  | error e =>
    rw [hf] at h
    obtain ⟨a, rfl⟩ | ⟨op', rfl, hp, hne⟩ := fetchInstr_eq_error hf
    · cases h
    · cases h
      exact ⟨hp, hne⟩
  | ok p =>
    obtain ⟨i, t⟩ := p
    simp only [hf] at h
    cases hexec : exec i t <;> rw [hexec] at h <;> cases h
    obtain ⟨a, ha, -⟩ := exec_eq_fault hexec
    cases ha

/-- The one access an entry makes is the push of PC (R412). -/
theorem takeInterrupt_stopsAbsent (i : Nat) (s : State) : Res.StopsAbsent s (takeInterrupt i s) :=
  .bind (push16_stopsAbsent s.pc (s.acknowledged i)) fun _ _ => .ok

theorem interruptCheck_stopsAbsent (s : State) : Res.StopsAbsent s (interruptCheck s) := by
  unfold interruptCheck
  cases s.config.interruptModel
  · exact .ok
  · exact .ite .ok (.ite (.bind (.of_readable (fun _ h => h) (takeInterrupt_stopsAbsent _ (s.setHalted false)))
      fun _ _ => .ok) .ok)

theorem step_eq_lookupMiss (h : step s = .fault (.lookupMiss op)) :
    populated s.config op = false ∧ op ≠ .plain extensionMarker := by
  unfold step stepOnce at h
  cases hc : interruptCheck s with
  | error e =>
    obtain ⟨a, rfl, -⟩ := interruptCheck_stopsAbsent s e hc
    rw [hc] at h
    cases h
  | ok p =>
    obtain ⟨_ | _, r⟩ := p <;> simp only [hc] at h
    · split at h
      · cases h
      · have hcfg : r.config = s.config := by
          obtain ⟨-, rfl, -⟩ | ⟨-, rfl, -⟩ | ⟨hfalse, -⟩ := interruptCheck_cases hc
          · rfl
          · rfl
          · cases hfalse
        exact hcfg ▸ runInstruction_eq_lookupMiss h
    · cases h

/-! ### The statement -/

theorem populated_reference_plain (b : Byte) : populated .reference (.plain b) = false ↔ plainEntry b = none := by
  simp [populated, Config.reference]

/-- Settles O18: a step that runs stops where its fetch stops, and no other part of a step raises LookupMiss. -/
theorem stepFaultsInFetch : Obligations.StepFaultsInFetch := by
  refine ⟨fun s hruns hpc hlatch hbios => ?opcodeByte, fun s b hruns hpeek =>
    ⟨fun hb hr => ?extendedByte, fun hp k hk hk' hbefore hr => ?immediate, fun hb hp => ?plainMiss,
      fun b1 hb hpeek1 hp => ?extendedMiss⟩,
    fun s op => step_eq_lookupMiss, fun b => ⟨rfl, (populated_reference_plain b).trans (plainEntry_eq_none_iff b)⟩⟩
  case opcodeByte =>
    have hr : ¬ s.readable s.pc := not_not.2 ⟨hpc, hlatch, hbios⟩
    exact step_of_fetch_error hruns (fetchInstr_of_fetchOpcode_error (fetchOpcode_unreadable hr))
  all_goals have hread := busRead_of_peek hpeek
  case extendedByte =>
    subst hb
    exact step_of_fetch_error hruns (fetchInstr_of_fetchOpcode_error
      (fetchOpcode_extended_unreadable hread (mt State.afterRead_readable.1 hr)))
  case immediate =>
    obtain ⟨entry, he⟩ := populated_plain hp
    have hfetch := fetchInstr_plain (fetchOpcode_plain hread (ne_extensionMarker_of_plainEntry he)) he hp
    exact step_of_fetch_error hruns (hfetch.trans (fetchOperand_unreadable he hk hk'
      (fun j hj hj' => State.afterRead_readable.2 (hbefore j hj hj')) (mt State.afterRead_readable.1 hr)))
  case plainMiss => exact step_of_fetch_error hruns (fetchInstr_unpopulated (fetchOpcode_plain hread hb) hp)
  case extendedMiss =>
    subst hb
    exact step_of_fetch_error hruns (fetchInstr_unpopulated (fetchOpcode_extended hread (busRead_of_peek hpeek1)) hp)

end Sys2Proof.Machine
end
